-- ==== Sys2Proof/Word.lean ====
section
/-! DEFINITION. The words of the SD/SPI block and their plainest arithmetic.

The block has no one word width (spec/00_scope.md R2): what crosses the wire is bits, grouped into bytes
(R15), and every register has the width its own rule gives it. -/

namespace Sys2Proof

/-- One byte: of a caller buffer, of the output or input buffer, or of the wire (R15). -/
abbrev Byte := BitVec 8

/-- The opaque clock configuration word of a device (spec/00_scope.md R12, R207). Its format is not in
the spec; 32 bits is the model's choice (assumption 7). -/
abbrev ClockWord := BitVec 32

/-- `ceil8(len) = (len + 7) / 8`, the number of bytes that hold `len` bits (R15). -/
def ceil8 (len : Nat) : Nat := (len + 7) / 8

end Sys2Proof
end

