-- ==== Sys2Proof/Config.lean ====
section
/-! DEFINITION. What is fixed for one machine and what the spec leaves free.

Three kinds of thing stand here: the parameters of spec/00_scope.md R12 that the spec gives a value
(plain constants), the parameters it leaves OPEN (the record `Params`, one value of which every state
carries), and the free values the spec calls draws (constants without a body, applied to a counter that
the state holds, and one choice between two rules that contradict each other, `busyAcquireWaits`). -/

namespace Sys2Proof.Config

/-- `NCR_MAX`: the response window, in byte reads (R12, R262). -/
def ncrMax : Nat := 8

/-- `WAKE_CLOCKS`: dummy clocks before GO_IDLE_STATE (R12, R294). -/
def wakeClocks : Nat := 80

/-- `CHUNK`: the most bytes of one engine transfer in a stream (R12, R255). -/
def chunk : Nat := 64

/-- `BLOCK`: the block size in bytes (R12, R90). -/
def block : Nat := 512

/-- `BLOCK_COUNT_BITS`: the width of the block_count result (R12, R383). -/
def blockCountBits : Nat := 32

/-- `CRC_CHECK`: receive-CRC checking, decided off (R12, R333, R420). -/
def crcCheck : Bool := false

/-- The parameters of R12 that the spec leaves OPEN. `NUM_CLIENTS` and `NUM_DEVICES` are the lengths of
the state's lists of clients and of devices. No step changes a parameter (R32). -/
structure Params where
  /-- `T_BUSY`, the not-busy deadline in milliseconds. -/
  tBusy : Nat
  /-- `T_INIT`, the bring-up loop deadline in milliseconds. -/
  tInit : Nat
  /-- `T_IO`, the data-token deadline in milliseconds. -/
  tIo : Nat
  /-- `HANDSHAKE_CLOCK`, the clock word used during initialization. -/
  handshakeClock : ClockWord
  /-- `DEMUX_BITS`, the width of the demux selector and of `DEMUX_PINS` (R49, R50, R446). -/
  demuxBits : Nat
  deriving DecidableEq, Repr

/-- The agents that take steps of their own (R30): a client, or the one shifter. The card answers inside a
shifter step (R33) and the time source inside a read of it (R36). -/
inductive Agent
  /-- The caller task with this id. -/
  | client (c : Nat)
  /-- The physical SPI peripheral (R220). -/
  | shifter
  deriving DecidableEq, Repr, Inhabited

/-- A free bit: a MISO sample the card answers (R33), or a padding bit of the last input byte (R85).
The argument is the state's draw counter. -/
opaque freeBit : Nat → Bool

/-- A free amount of milliseconds by which `TIME` grows at one read of it (R36). -/
opaque freeTick : Nat → Nat

/-- The agent that moves next, where the state's own list of scheduling choices is used up. It also says
which waiter is granted (R203). -/
opaque freeAgent : Nat → Agent

/-- Whether the `acquire` of a client that does not own the bus, called while BUSY = 1, makes it wait (R202, and the
pseudocode of R205, which exempts acquire from the busy test) or is refused (R425 row 5, R98, and the first sentence
of R205, which do not exempt it). The spec says both and no entry of 90_conflicts.md decides; nothing in the model
says which it is (log entry 11). -/
opaque busyAcquireWaits : Bool

/-- The 32-bit capacity where the formulas give none (R384). -/
opaque freeCapacity : Nat → BitVec 32

/-- `TIME` at power-on, a draw (R62). -/
opaque timeAtReset : Nat

/-- `HANDSHAKE_CLOCK` (R12): an opaque word the spec gives no value. -/
opaque handshakeClock : ClockWord

/-- The clock word of device `d`'s descriptor at power-on: the caller's, opaque (R50). -/
opaque callerClock : Nat → ClockWord

end Sys2Proof.Config
end

