-- ==== Sys2Proof/Syntax.lean ====
section
/-! DEFINITION. The one syntax: every row of spec/opcode_table.json is a constructor of `Instr`.

The table has four groups of rows: the operations a client requests (spec/30_encoding.md R121), the SD
command frames the sequencer puts on the wire (R131), the responses the card gives (R127 to R129), and the
one-byte tokens of the data line (R134, R136). -/

namespace Sys2Proof

/-- One row of the opcode table with its operands. Numbers that the spec counts or addresses with are
`Nat` (their widths are checked by `Instr.wellFormed`); patterns of bits are bit vectors. -/
inductive Instr
  -- ---- engine operations, OPC 0x00 to 0x0E
  /-- R200. -/
  | busInit
  /-- R202: take the bus for device `dev`. -/
  | acquire (dev : Nat)
  /-- R204. -/
  | release
  /-- R207. -/
  | setClock (word : ClockWord)
  /-- R208. -/
  | csAssert
  /-- R209. -/
  | csDeassert
  /-- R210. -/
  | reset
  /-- R211: `len` has 5 bits and `value` 16. -/
  | setCommand (len : Nat) (value : BitVec 16)
  /-- R212: `len` has 6 bits and `value` 32. -/
  | setAddress (len : Nat) (value : BitVec 32)
  /-- R213: `len` has 10 bits; `bytes` refers to `ceil8 len` bytes of caller memory. -/
  | setOutput (len : Nat) (bytes : Nat)
  /-- R214: `len` has 10 bits and `word` 32. -/
  | setOutputPattern (len : Nat) (word : BitVec 32)
  /-- R215: the dummy count has 9 bits and the receive length 10. -/
  | configureExec (bigEndianOut : Bool) (dummyCycles : Nat) (recvBits : Nat) (bigEndianIn : Bool)
  /-- R216. -/
  | execute
  /-- R217. -/
  | wait
  /-- R218: `buf` refers to caller memory. -/
  | readResult (buf : Nat)
  -- ---- driver operations, OPC 0x10 to 0x15
  /-- R290. -/
  | sdInitialize (dev : Nat)
  /-- R330. -/
  | sdRead (dev first count buf : Nat)
  /-- R338. -/
  | sdWrite (dev first count buf : Nat)
  /-- R355. -/
  | sdErase (dev first last : Nat)
  /-- R370. -/
  | sdReadCid (dev buf : Nat)
  /-- R371. -/
  | sdReadCsd (dev buf : Nat)
  -- ---- block-device operations, OPC 0x20 to 0x26
  /-- R400. -/
  | status (unit : Nat)
  /-- R401. -/
  | upInitialize (unit : Nat)
  /-- R402. -/
  | upRead (unit firstBlock count buf : Nat)
  /-- R403. -/
  | upWrite (unit firstBlock count buf : Nat)
  /-- R404. -/
  | blockCount (unit : Nat)
  /-- R405. -/
  | sectorSize (unit : Nat)
  /-- R406. -/
  | eraseGranularity (unit : Nat)
  -- ---- SD command frames (R131); the CRC field is computed (R126), so it is no operand
  /-- R295. -/
  | cmd0GoIdleState
  /-- R302. -/
  | cmd1SendOpCond
  /-- R296. -/
  | cmd8SendIfCond
  /-- R371. -/
  | cmd9SendCsd
  /-- R370. -/
  | cmd10SendCid
  /-- R334, R348. -/
  | cmd12StopTransmission
  /-- R307. -/
  | cmd16SetBlocklen
  /-- R331: `a` is the translated address. -/
  | cmd17ReadSingleBlock (a : BitVec 32)
  /-- R331. -/
  | cmd18ReadMultipleBlock (a : BitVec 32)
  /-- R339. -/
  | cmd24WriteBlock (a : BitVec 32)
  /-- R346. -/
  | cmd25WriteMultipleBlock (a : BitVec 32)
  /-- R355. -/
  | cmd32EraseWrBlkStart (a : BitVec 32)
  /-- R355. -/
  | cmd33EraseWrBlkEnd (a : BitVec 32)
  /-- R355. -/
  | cmd38Erase
  /-- R266. -/
  | cmd55AppCmd
  /-- R305. -/
  | cmd58ReadOcr
  /-- R345: `a` is the block count of the write. -/
  | acmd23SetWrBlkEraseCount (a : BitVec 32)
  /-- R300: the argument has the high-capacity-support bit. -/
  | acmd41SdV2Hcs
  /-- R301: argument 0. -/
  | acmd41SdV1
  -- ---- responses
  /-- R127: the status byte `0sssssss`. -/
  | r1Status (s : BitVec 7)
  /-- R128: the status byte, then the 32 bits of the OCR. -/
  | r3StatusOcr (s : BitVec 7) (o : BitVec 32)
  /-- R129: the status byte, 20 bits not examined, the 12-bit echo. -/
  | r7StatusEcho (s : BitVec 7) (x : BitVec 20) (e : BitVec 12)
  -- ---- tokens of the data line (R134) and the data-response token (R136)
  /-- 0xFF. -/
  | fillerNotBusy
  /-- 0xFE. -/
  | dataStartToken
  /-- 0xFC. -/
  | multiBlockWriteStartToken
  /-- 0xFD. -/
  | multiBlockStopToken
  /-- Low nibble 0b0101. -/
  | dataResponseAccepted (x : BitVec 4)
  /-- Any other low nibble `n`. -/
  | dataResponseRejected (x n : BitVec 4)
  deriving DecidableEq, Repr

end Sys2Proof
end

