-- ==== Sys2Proof/Decode.lean ====
section
/-! DEFINITION. Decoding and encoding, from spec/30_encoding.md.

Section 1 of that file encodes the requests of clients (OPC and operands); sections 2 to 5 encode what
crosses the wire. The two encodings share words (0x00 is both `bus_init` and an R1 status), so a decoder
needs to know which of them it reads: that is the `Port`. Decoding is total on any bytes and rejects by
name. -/

namespace Sys2Proof

/-! ### Numbers as bytes -/

/-- The low `8 * n` bits of `v` as `n` bytes, least significant first (request operands, assumption 2). -/
def bytesLE : Nat → Nat → List Byte
  | 0, _ => []
  | n + 1, v => BitVec.ofNat 8 v :: bytesLE n (v / 256)

/-- The number whose bytes, least significant first, these are. -/
def ofBytesLE : List Byte → Nat
  | [] => 0
  | b :: bs => b.toNat + 256 * ofBytesLE bs

/-- The 32 bits of `v` as 4 bytes, most significant first: the order of the wire (R88). -/
def bytesBE32 (v : BitVec 32) : List Byte :=
  [v.extractLsb' 24 8, v.extractLsb' 16 8, v.extractLsb' 8 8, v.extractLsb' 0 8]

/-- `be32(bs[0..3])` (R15). -/
def be32 (b0 b1 b2 b3 : Byte) : BitVec 32 := ((b0 ++ b1) ++ b2) ++ b3

/-! ### The CRC7 of a command frame (R126) -/

/-- One bit into the CRC register: generator `x^7 + x^3 + 1`. -/
def crc7Bit (c : BitVec 7) (b : Bool) : BitVec 7 :=
  let sh := c <<< 1
  if b ^^ c.getLsbD 6 then sh ^^^ 0b0001001#7 else sh

/-- One byte into the CRC register, bit 7 first. -/
def crc7Byte (c : BitVec 7) (b : Byte) : BitVec 7 :=
  [7, 6, 5, 4, 3, 2, 1, 0].foldl (fun c i => crc7Bit c (b.getLsbD i)) c

/-- The CRC7 of a sequence of bytes; the register starts at 0. -/
def crc7 (bs : List Byte) : BitVec 7 := bs.foldl crc7Byte 0#7

/-- The first byte of a frame: `0x40 | idx`, framing bits `01` and the index (R123). -/
def frameHead (idx : BitVec 6) : Byte := 0b01#2 ++ idx

/-- The last byte of a frame: `(crc7 << 1) | 1` (R123, R126). -/
def frameCrcByte (idx : BitVec 6) (arg : BitVec 32) : Byte :=
  crc7 (frameHead idx :: bytesBE32 arg) ++ 1#1

/-- The six bytes of a command frame in wire order (R123). -/
def frameBytes (idx : BitVec 6) (arg : BitVec 32) : List Byte :=
  frameHead idx :: bytesBE32 arg ++ [frameCrcByte idx arg]

/-- The 48-bit value `F` of a frame, bit 47 the first bit sent (R123). -/
def frameValue (idx : BitVec 6) (arg : BitVec 32) : BitVec 48 :=
  (0b01#2 ++ idx) ++ arg ++ crc7 (frameHead idx :: bytesBE32 arg) ++ 1#1

/-! ### The command set (R131) -/

/-- The kind of a command's response (R127 to R130). -/
inductive RespKind
  | r1 | r3 | r7
  deriving DecidableEq, Repr, Inhabited

/-- A command the sequencer sends: its index, argument and response kind. -/
structure Command where
  idx : BitVec 6
  arg : BitVec 32
  kind : RespKind
  deriving DecidableEq, Repr

/-- The command a frame row stands for: index, argument and response of R131 and R133. -/
def commandOf : Instr → Option Command
  | .cmd0GoIdleState => some ⟨0, 0, .r1⟩
  | .cmd1SendOpCond => some ⟨1, 0, .r1⟩
  | .cmd8SendIfCond => some ⟨8, 0x1AA, .r7⟩
  | .cmd9SendCsd => some ⟨9, 0, .r1⟩
  | .cmd10SendCid => some ⟨10, 0, .r1⟩
  | .cmd12StopTransmission => some ⟨12, 0, .r1⟩
  | .cmd16SetBlocklen => some ⟨16, 512, .r1⟩
  | .cmd17ReadSingleBlock a => some ⟨17, a, .r1⟩
  | .cmd18ReadMultipleBlock a => some ⟨18, a, .r1⟩
  | .cmd24WriteBlock a => some ⟨24, a, .r1⟩
  | .cmd25WriteMultipleBlock a => some ⟨25, a, .r1⟩
  | .cmd32EraseWrBlkStart a => some ⟨32, a, .r1⟩
  | .cmd33EraseWrBlkEnd a => some ⟨33, a, .r1⟩
  | .cmd38Erase => some ⟨38, 0, .r1⟩
  | .cmd55AppCmd => some ⟨55, 0, .r1⟩
  | .cmd58ReadOcr => some ⟨58, 0, .r3⟩
  | .acmd23SetWrBlkEraseCount a => some ⟨23, a, .r1⟩
  | .acmd41SdV2Hcs => some ⟨41, 0x40000000, .r1⟩
  | .acmd41SdV1 => some ⟨41, 0, .r1⟩
  | .busInit | .acquire _ | .release | .setClock _ | .csAssert | .csDeassert | .reset | .setCommand _ _
  | .setAddress _ _ | .setOutput _ _ | .setOutputPattern _ _ | .configureExec _ _ _ _ | .execute | .wait
  | .readResult _ | .sdInitialize _ | .sdRead _ _ _ _ | .sdWrite _ _ _ _ | .sdErase _ _ _ | .sdReadCid _ _
  | .sdReadCsd _ _ | .status _ | .upInitialize _ | .upRead _ _ _ _ | .upWrite _ _ _ _ | .blockCount _
  | .sectorSize _ | .eraseGranularity _ | .r1Status _ | .r3StatusOcr _ _ | .r7StatusEcho _ _ _
  | .fillerNotBusy | .dataStartToken | .multiBlockWriteStartToken | .multiBlockStopToken
  | .dataResponseAccepted _ | .dataResponseRejected _ _ => none

/-- The row of a frame with index `idx` and argument `arg`; none where R131 has no such command. An index
of 23 or 41 is read as the application command, since no other command with that index is ever sent (R131,
R132). -/
def instrOfFrame (idx arg : Nat) : Option Instr :=
  let a : BitVec 32 := BitVec.ofNat 32 arg
  match idx with
  | 0 => if arg = 0 then some .cmd0GoIdleState else none
  | 1 => if arg = 0 then some .cmd1SendOpCond else none
  | 8 => if arg = 0x1AA then some .cmd8SendIfCond else none
  | 9 => if arg = 0 then some .cmd9SendCsd else none
  | 10 => if arg = 0 then some .cmd10SendCid else none
  | 12 => if arg = 0 then some .cmd12StopTransmission else none
  | 16 => if arg = 512 then some .cmd16SetBlocklen else none
  | 17 => some (.cmd17ReadSingleBlock a)
  | 18 => some (.cmd18ReadMultipleBlock a)
  | 23 => some (.acmd23SetWrBlkEraseCount a)
  | 24 => some (.cmd24WriteBlock a)
  | 25 => some (.cmd25WriteMultipleBlock a)
  | 32 => some (.cmd32EraseWrBlkStart a)
  | 33 => some (.cmd33EraseWrBlkEnd a)
  | 38 => if arg = 0 then some .cmd38Erase else none
  | 41 => if arg = 0x40000000 then some .acmd41SdV2Hcs
          else if arg = 0 then some .acmd41SdV1 else none
  | 55 => if arg = 0 then some .cmd55AppCmd else none
  | 58 => if arg = 0 then some .cmd58ReadOcr else none
  | _ => none

/-! ### What a decoder reads -/

/-- Which encoding of spec/30_encoding.md some bytes are in. -/
inductive Port
  /-- A client's request: OPC and operands (R120, R121). -/
  | request
  /-- An SD command frame (R123). -/
  | frame
  /-- A response, whose kind the command that was sent fixes (R130). -/
  | response (kind : RespKind)
  /-- A one-byte token of the data line (R134). -/
  | token
  /-- The data-response token (R136). -/
  | dataResponse
  deriving DecidableEq, Repr

/-- Why bytes are no instruction. -/
inductive DecodeError
  /-- The bytes end before the encoding does. -/
  | truncated
  /-- The OPC is not in the map of R121 (R122). -/
  | illegalOpcode
  /-- An operand has bits above its field's width (R122). -/
  | operandWidth
  /-- The framing bits are not `01` or the stop bit is not 1 (R123). -/
  | illegalFraming
  /-- The CRC field is not the CRC7 of the frame's first 40 bits (R126). -/
  | badCrc
  /-- No command of R131 has this index and argument. -/
  | notInCommandSet
  /-- A status byte has bit 7 set (R127). -/
  | notAStatus
  /-- No token of R134. -/
  | notAToken
  /-- Bytes other than zero follow the encoding. -/
  | trailing
  deriving DecidableEq, Repr

/-- What decoding the front of a list of bytes gives: an instruction and the bytes after it. -/
abbrev Decoded := Except DecodeError (Instr × List Byte)

/-- An operand field of `n` whole bytes, least significant first, whose value must be below `limit`
(assumption 2). -/
def operand (n limit : Nat) (bs : List Byte) : Except DecodeError (Nat × List Byte) :=
  if bs.length < n then .error .truncated
  else if ofBytesLE (bs.take n) < limit then .ok (ofBytesLE (bs.take n), bs.drop n)
  else .error .operandWidth

/-- A 32-bit operand in 4 bytes. -/
def operand32 (bs : List Byte) : Except DecodeError (Nat × List Byte) := operand 4 (2 ^ 32) bs

/-- The operands that follow an OPC (R121), in the order of that table. -/
def decodeOperands (opc : Nat) (bs : List Byte) : Except DecodeError (Instr × List Byte) :=
  match opc with
  | 0x00 => .ok (.busInit, bs)
  | 0x01 => do
    let (dev, bs) ← operand32 bs
    .ok (.acquire dev, bs)
  | 0x02 => .ok (.release, bs)
  | 0x03 => do
    let (w, bs) ← operand32 bs
    .ok (.setClock (BitVec.ofNat 32 w), bs)
  | 0x04 => .ok (.csAssert, bs)
  | 0x05 => .ok (.csDeassert, bs)
  | 0x06 => .ok (.reset, bs)
  | 0x07 => do
    let (len, bs) ← operand 1 (2 ^ 5) bs
    let (v, bs) ← operand 2 (2 ^ 16) bs
    .ok (.setCommand len (BitVec.ofNat 16 v), bs)
  | 0x08 => do
    let (len, bs) ← operand 1 (2 ^ 6) bs
    let (v, bs) ← operand32 bs
    .ok (.setAddress len (BitVec.ofNat 32 v), bs)
  | 0x09 => do
    let (len, bs) ← operand 2 (2 ^ 10) bs
    let (r, bs) ← operand32 bs
    .ok (.setOutput len r, bs)
  | 0x0A => do
    let (len, bs) ← operand 2 (2 ^ 10) bs
    let (w, bs) ← operand32 bs
    .ok (.setOutputPattern len (BitVec.ofNat 32 w), bs)
  | 0x0B => do
    let (beo, bs) ← operand 1 2 bs
    let (dummy, bs) ← operand 2 (2 ^ 9) bs
    let (recv, bs) ← operand 2 (2 ^ 10) bs
    let (bei, bs) ← operand 1 2 bs
    .ok (.configureExec (beo == 1) dummy recv (bei == 1), bs)
  | 0x0C => .ok (.execute, bs)
  | 0x0D => .ok (.wait, bs)
  | 0x0E => do
    let (buf, bs) ← operand32 bs
    .ok (.readResult buf, bs)
  | 0x10 => do
    let (dev, bs) ← operand32 bs
    .ok (.sdInitialize dev, bs)
  | 0x11 => do
    let (dev, bs) ← operand32 bs
    let (first, bs) ← operand32 bs
    let (count, bs) ← operand32 bs
    let (buf, bs) ← operand32 bs
    .ok (.sdRead dev first count buf, bs)
  | 0x12 => do
    let (dev, bs) ← operand32 bs
    let (first, bs) ← operand32 bs
    let (count, bs) ← operand32 bs
    let (buf, bs) ← operand32 bs
    .ok (.sdWrite dev first count buf, bs)
  | 0x13 => do
    let (dev, bs) ← operand32 bs
    let (first, bs) ← operand32 bs
    let (last, bs) ← operand32 bs
    .ok (.sdErase dev first last, bs)
  | 0x14 => do
    let (dev, bs) ← operand32 bs
    let (buf, bs) ← operand32 bs
    .ok (.sdReadCid dev buf, bs)
  | 0x15 => do
    let (dev, bs) ← operand32 bs
    let (buf, bs) ← operand32 bs
    .ok (.sdReadCsd dev buf, bs)
  | 0x20 => do
    let (u, bs) ← operand32 bs
    .ok (.status u, bs)
  | 0x21 => do
    let (u, bs) ← operand32 bs
    .ok (.upInitialize u, bs)
  | 0x22 => do
    let (u, bs) ← operand32 bs
    let (first, bs) ← operand32 bs
    let (count, bs) ← operand32 bs
    let (buf, bs) ← operand32 bs
    .ok (.upRead u first count buf, bs)
  | 0x23 => do
    let (u, bs) ← operand32 bs
    let (first, bs) ← operand32 bs
    let (count, bs) ← operand32 bs
    let (buf, bs) ← operand32 bs
    .ok (.upWrite u first count buf, bs)
  | 0x24 => do
    let (u, bs) ← operand32 bs
    .ok (.blockCount u, bs)
  | 0x25 => do
    let (u, bs) ← operand32 bs
    .ok (.sectorSize u, bs)
  | 0x26 => do
    let (u, bs) ← operand32 bs
    .ok (.eraseGranularity u, bs)
  | _ => .error .illegalOpcode

/-- A request: the OPC byte, then its operands (R120, R121, R122). -/
def decodeRequest : List Byte → Decoded
  | [] => .error .truncated
  | opc :: bs => decodeOperands opc.toNat bs

/-- A command frame: framing `01`, index, argument, CRC7, stop bit 1 (R123, R126, R131). -/
def decodeFrame : List Byte → Decoded
  | b0 :: b1 :: b2 :: b3 :: b4 :: b5 :: rest =>
    if b0.extractLsb' 6 2 ≠ 0b01#2 ∨ b5.getLsbD 0 = false then .error .illegalFraming
    else if b5.extractLsb' 1 7 ≠ crc7 [b0, b1, b2, b3, b4] then .error .badCrc
    else match instrOfFrame (b0.extractLsb' 0 6).toNat (be32 b1 b2 b3 b4).toNat with
      | some i => .ok (i, rest)
      | none => .error .notInCommandSet
  | _ => .error .truncated

/-- A response of the given kind: R1 alone (R127), or R1 and 4 bytes, most significant first (R128, R129). -/
def decodeResponse : RespKind → List Byte → Decoded
  | _, [] => .error .truncated
  | .r1, b :: rest =>
    if b.getLsbD 7 then .error .notAStatus else .ok (.r1Status (b.extractLsb' 0 7), rest)
  | .r3, b :: b1 :: b2 :: b3 :: b4 :: rest =>
    if b.getLsbD 7 then .error .notAStatus
    else .ok (.r3StatusOcr (b.extractLsb' 0 7) (be32 b1 b2 b3 b4), rest)
  | .r7, b :: b1 :: b2 :: b3 :: b4 :: rest =>
    if b.getLsbD 7 then .error .notAStatus
    else .ok (.r7StatusEcho (b.extractLsb' 0 7) ((be32 b1 b2 b3 b4).extractLsb' 12 20)
      ((be32 b1 b2 b3 b4).extractLsb' 0 12), rest)
  | _, _ => .error .truncated

/-- A one-byte token of the data line (R134). -/
def decodeToken : List Byte → Decoded
  | [] => .error .truncated
  | b :: rest =>
    if b = 0xFF#8 then .ok (.fillerNotBusy, rest)
    else if b = 0xFE#8 then .ok (.dataStartToken, rest)
    else if b = 0xFC#8 then .ok (.multiBlockWriteStartToken, rest)
    else if b = 0xFD#8 then .ok (.multiBlockStopToken, rest)
    else .error .notAToken

/-- The data-response token: accepted when the low nibble is 0b0101, else rejected (R136). -/
def decodeDataResponse : List Byte → Decoded
  | [] => .error .truncated
  | b :: rest =>
    if b.extractLsb' 0 4 = 5#4 then .ok (.dataResponseAccepted (b.extractLsb' 4 4), rest)
    else .ok (.dataResponseRejected (b.extractLsb' 4 4) (b.extractLsb' 0 4), rest)

/-- The decoder: the instruction at the front of the bytes read at a port, and the bytes after it. -/
def decodeAt : Port → List Byte → Decoded
  | .request, bs => decodeRequest bs
  | .frame, bs => decodeFrame bs
  | .response k, bs => decodeResponse k bs
  | .token, bs => decodeToken bs
  | .dataResponse, bs => decodeDataResponse bs

/-- What a client has been asked to do: bytes, and which encoding they are in. -/
structure Call where
  port : Port
  bytes : List Byte
  deriving DecidableEq, Repr

/-- The instruction a call spells, at its port. R120 gives the request record no layout in bytes and so no padding, and
no rule says what may follow a frame, a response or a token: that a call may have zero bytes after the encoding and
is refused with any other is the model's choice (log entry 2). -/
def decodeCall (call : Call) : Except DecodeError Instr :=
  match decodeAt call.port call.bytes with
  | .error e => .error e
  | .ok (i, rest) => if rest.all (· == 0#8) then .ok i else .error .trailing

/-! ### The encoder -/

/-- The port at which an instruction's encoding is read. -/
def portOf : Instr → Port
  | .busInit | .acquire _ | .release | .setClock _ | .csAssert | .csDeassert | .reset | .setCommand _ _
  | .setAddress _ _ | .setOutput _ _ | .setOutputPattern _ _ | .configureExec _ _ _ _ | .execute | .wait
  | .readResult _ | .sdInitialize _ | .sdRead _ _ _ _ | .sdWrite _ _ _ _ | .sdErase _ _ _ | .sdReadCid _ _
  | .sdReadCsd _ _ | .status _ | .upInitialize _ | .upRead _ _ _ _ | .upWrite _ _ _ _ | .blockCount _
  | .sectorSize _ | .eraseGranularity _ => .request
  | .cmd0GoIdleState | .cmd1SendOpCond | .cmd8SendIfCond | .cmd9SendCsd | .cmd10SendCid
  | .cmd12StopTransmission | .cmd16SetBlocklen | .cmd17ReadSingleBlock _ | .cmd18ReadMultipleBlock _
  | .cmd24WriteBlock _ | .cmd25WriteMultipleBlock _ | .cmd32EraseWrBlkStart _ | .cmd33EraseWrBlkEnd _
  | .cmd38Erase | .cmd55AppCmd | .cmd58ReadOcr | .acmd23SetWrBlkEraseCount _ | .acmd41SdV2Hcs | .acmd41SdV1 => .frame
  | .r1Status _ => .response .r1
  | .r3StatusOcr _ _ => .response .r3
  | .r7StatusEcho _ _ _ => .response .r7
  | .fillerNotBusy | .dataStartToken | .multiBlockWriteStartToken | .multiBlockStopToken => .token
  | .dataResponseAccepted _ | .dataResponseRejected _ _ => .dataResponse


/-- The bytes of a well-formed instruction, in the order of the request record (R120, R121) or of the wire
(R123 to R136). -/
def encode : Instr → List Byte
  | .busInit => [0x00]
  | .acquire dev => 0x01 :: bytesLE 4 dev
  | .release => [0x02]
  | .setClock word => 0x03 :: bytesLE 4 word.toNat
  | .csAssert => [0x04]
  | .csDeassert => [0x05]
  | .reset => [0x06]
  | .setCommand len value => 0x07 :: bytesLE 1 len ++ bytesLE 2 value.toNat
  | .setAddress len value => 0x08 :: bytesLE 1 len ++ bytesLE 4 value.toNat
  | .setOutput len bytes => 0x09 :: bytesLE 2 len ++ bytesLE 4 bytes
  | .setOutputPattern len word => 0x0A :: bytesLE 2 len ++ bytesLE 4 word.toNat
  | .configureExec beo dummy recv bei =>
    0x0B :: bytesLE 1 beo.toNat ++ bytesLE 2 dummy ++ bytesLE 2 recv ++ bytesLE 1 bei.toNat
  | .execute => [0x0C]
  | .wait => [0x0D]
  | .readResult buf => 0x0E :: bytesLE 4 buf
  | .sdInitialize dev => 0x10 :: bytesLE 4 dev
  | .sdRead dev first count buf =>
    0x11 :: bytesLE 4 dev ++ bytesLE 4 first ++ bytesLE 4 count ++ bytesLE 4 buf
  | .sdWrite dev first count buf =>
    0x12 :: bytesLE 4 dev ++ bytesLE 4 first ++ bytesLE 4 count ++ bytesLE 4 buf
  | .sdErase dev first last => 0x13 :: bytesLE 4 dev ++ bytesLE 4 first ++ bytesLE 4 last
  | .sdReadCid dev buf => 0x14 :: bytesLE 4 dev ++ bytesLE 4 buf
  | .sdReadCsd dev buf => 0x15 :: bytesLE 4 dev ++ bytesLE 4 buf
  | .status unit => 0x20 :: bytesLE 4 unit
  | .upInitialize unit => 0x21 :: bytesLE 4 unit
  | .upRead unit first count buf =>
    0x22 :: bytesLE 4 unit ++ bytesLE 4 first ++ bytesLE 4 count ++ bytesLE 4 buf
  | .upWrite unit first count buf =>
    0x23 :: bytesLE 4 unit ++ bytesLE 4 first ++ bytesLE 4 count ++ bytesLE 4 buf
  | .blockCount unit => 0x24 :: bytesLE 4 unit
  | .sectorSize unit => 0x25 :: bytesLE 4 unit
  | .eraseGranularity unit => 0x26 :: bytesLE 4 unit
  | .cmd0GoIdleState => frameBytes 0 0
  | .cmd1SendOpCond => frameBytes 1 0
  | .cmd8SendIfCond => frameBytes 8 0x1AA
  | .cmd9SendCsd => frameBytes 9 0
  | .cmd10SendCid => frameBytes 10 0
  | .cmd12StopTransmission => frameBytes 12 0
  | .cmd16SetBlocklen => frameBytes 16 512
  | .cmd17ReadSingleBlock a => frameBytes 17 a
  | .cmd18ReadMultipleBlock a => frameBytes 18 a
  | .cmd24WriteBlock a => frameBytes 24 a
  | .cmd25WriteMultipleBlock a => frameBytes 25 a
  | .cmd32EraseWrBlkStart a => frameBytes 32 a
  | .cmd33EraseWrBlkEnd a => frameBytes 33 a
  | .cmd38Erase => frameBytes 38 0
  | .cmd55AppCmd => frameBytes 55 0
  | .cmd58ReadOcr => frameBytes 58 0
  | .acmd23SetWrBlkEraseCount a => frameBytes 23 a
  | .acmd41SdV2Hcs => frameBytes 41 0x40000000
  | .acmd41SdV1 => frameBytes 41 0
  | .r1Status s => [0#1 ++ s]
  | .r3StatusOcr s o => (0#1 ++ s) :: bytesBE32 o
  | .r7StatusEcho s x e => (0#1 ++ s) :: bytesBE32 (x ++ e)
  | .fillerNotBusy => [0xFF]
  | .dataStartToken => [0xFE]
  | .multiBlockWriteStartToken => [0xFC]
  | .multiBlockStopToken => [0xFD]
  | .dataResponseAccepted x => [x ++ 5#4]
  | .dataResponseRejected x n => [x ++ n]

/-- The call that asks for an instruction: its encoding, at its port. -/
def callOf (i : Instr) : Call := ⟨portOf i, encode i⟩

/-! ### The words of the opcode table -/

/-- The longest encoding, a request of `sd_read`: OPC and four 4-byte operands. -/
def longestEncoding : Nat := 17

/-- The bytes of `w` most significant first: how the table numbers a frame (bit 47 is the first bit sent,
R123) and a 5-byte response. -/
def bytesBE (n w : Nat) : List Byte := (bytesLE n w).reverse

/-- The call that a word of the opcode table is. A 48-bit word is a frame and a 40-bit word a 5-byte
response, both numbered with their first bit on the wire on top (R123, R128); of the two 5-byte responses,
which have the same encoding (R130), the one with an echo of 0x1AA is read as R7. A shorter word is a
request where its OPC is in the map of R121, else a token, else a status byte, else a data response. Bits
above `nbits` are 0. -/
def tableCall (nbits w : Nat) : Call :=
  if nbits = 48 then ⟨.frame, bytesBE 6 w⟩
  else if nbits = 40 then
    ⟨.response (if w % 2 ^ 12 = 0x1AA then .r7 else .r3), bytesBE 5 w⟩
  else
    let bs := bytesLE longestEncoding (w % 2 ^ nbits)
    let isRequest := match decodeRequest bs with
      | .ok _ => true
      | .error _ => false
    let isToken := match decodeToken bs with
      | .ok _ => true
      | .error _ => false
    if isRequest then ⟨.request, bs⟩
    else if isToken then ⟨.token, bs⟩
    else if w % 256 < 128 then ⟨.response .r1, bs⟩
    else ⟨.dataResponse, bs⟩

/-- The instruction the decoder reads from a word of the opcode table. -/
def decodeTableWord (nbits w : Nat) : Option Instr :=
  match decodeCall (tableCall nbits w) with
  | .ok i => some i
  | .error _ => none

end Sys2Proof
end

