-- ==== Sys2Proof/Machine/State.lean ====
section
/-! DEFINITION. Everything the spec gives the machine, as plain data, and the reasons a step can stop.

A register for which spec/00_scope.md R16 allows the value `UNDEF` is an `Option` whose `none` IS that
value: the spec makes `UNDEF` the reset value of those registers (spec/10_state.md R47, R62), has `reset`
write it (R210), and says what a read of it does (R16, R216). -/

namespace Sys2Proof.Machine

open Sys2Proof

/-! ### Names of values -/

/-- The bit order of the wire: `bit_order` 0 is MSB-first and 1 is LSB-first (R50). -/
inductive BitOrder
  | msbFirst | lsbFirst
  deriving DecidableEq, Repr

/-- The chip-select mode: `cs_mode` 0 is hardware-timed and 1 software-driven (R50). -/
inductive CsMode
  | hardware | software
  deriving DecidableEq, Repr

/-- The single chip-select line before the demux (R49). -/
inductive CsLine
  | asserted | deasserted
  deriving DecidableEq, Repr

/-- The error kinds a sequencer operation can report (R420). `CRCError` is reserved and never produced. -/
inductive ErrKind
  | timeout | ioError
  deriving DecidableEq, Repr

/-- The result `RES` of a sequencer operation (R60, R421, R422). -/
inductive Res
  | ok | timeout | ioError
  /-- Reserved, never produced (R422). -/
  | crcError
  deriving DecidableEq, Repr

/-- A recognised card type: the values of `TYPE` other than Unrecognized (R55). -/
inductive Card
  | mmc | sdV1 | sdV2 | sdhc
  deriving DecidableEq, Repr

/-- The session register of a device (R55). Its three fields STATE, TYPE and FAIL take only the
combinations of R56, which are these three shapes; the fields themselves are read by
`Session.stateField`, `Session.typeField` and `Session.failField`. -/
inductive Session
  /-- `UNINITIALIZED`, `Unrecognized`, `NONE`. -/
  | uninitialized
  /-- `READY`, the type, `NONE`. -/
  | ready (card : Card)
  /-- `FAILED`, `Unrecognized`, the error. -/
  | failed (err : ErrKind)
  deriving DecidableEq, Repr

/-! ### The engine -/

/-- The engine field registers (R40 to R47). `none` is `UNDEF`. -/
structure Engine where
  /-- `CMD_EN`. -/
  cmdEn : Option Bool
  /-- `CMD_LEN`, legal 1..16. -/
  cmdLen : Option Nat
  /-- `CMD_VAL`. -/
  cmdVal : Option (BitVec 16)
  /-- `ADDR_EN`. -/
  addrEn : Option Bool
  /-- `ADDR_LEN`, legal 1..32. -/
  addrLen : Option Nat
  /-- `ADDR_VAL`. -/
  addrVal : Option (BitVec 32)
  /-- `OUT_EN`. -/
  outEn : Option Bool
  /-- `OUT_LEN`, legal 1..512. -/
  outLen : Option Nat
  /-- `OUT_BUF[0..63]`. -/
  outBuf : List (Option Byte)
  /-- `DUMMY_LEN`, legal 0..256. -/
  dummyLen : Option Nat
  /-- `IN_LEN`, legal 0..512. -/
  inLen : Option Nat
  /-- `IN_BUF[0..63]`. -/
  inBuf : List (Option Byte)
  /-- `OUT_BE`. -/
  outBe : Option Bool
  /-- `IN_BE`. -/
  inBe : Option Bool
  /-- `BUSY`. -/
  busy : Bool
  deriving DecidableEq, Repr

/-- `SNAP`, the snapshot of the in-flight transaction and the shifter's position in it (R63, R216). -/
structure Snap where
  /-- The MOSI bit of every clock event, in time order (R80, R82). -/
  mosi : List Bool
  /-- How many of them are in the command, address and output phases (R81): what the block drives on a
  shared line (R86). -/
  driven : Nat
  /-- `IN_LEN` as it stood at `execute`. -/
  inLen : Nat
  /-- `IN_BE` as it stood at `execute`. -/
  inBe : Bool
  /-- `CFG_BIT_ORDER` as it stood at `execute`. -/
  bitOrder : BitOrder
  /-- `CFG_CS_MODE` as it stood at `execute`. -/
  csMode : CsMode
  /-- The number of clock events performed. -/
  pos : Nat
  /-- The MISO samples of the input phase so far, in time order (R85). -/
  samples : List Bool
  deriving DecidableEq, Repr

/-- The bus configuration latch (R48). `none` is `UNDEF`. -/
structure Latch where
  /-- `CFG_DEV`. -/
  dev : Option Nat
  /-- `CFG_CLOCK`. -/
  clock : Option ClockWord
  /-- `CFG_MODE`. -/
  mode : Option (BitVec 2)
  /-- `CFG_BIT_ORDER`. -/
  bitOrder : Option BitOrder
  /-- `CFG_CS_MODE`. -/
  csMode : Option CsMode
  /-- `CFG_SHARED_IO`. -/
  sharedIo : Option Bool
  deriving DecidableEq, Repr

/-- The lines the block drives (R49). `none` is `UNDEF`. -/
structure Lines where
  /-- `CS_LINE`. -/
  cs : Option CsLine
  /-- `DEMUX_PINS`: `DEMUX_BITS` bits as a number, which `grant` writes below `2 ^ DEMUX_BITS`. -/
  demux : Option Nat
  /-- `MOSI` at the last clock event; none where the block does not drive the line (R86). -/
  mosi : Option Bool
  /-- `SCLK`, as the number of clock events since power-on (assumption 9). -/
  sclk : Nat
  deriving DecidableEq, Repr

/-- The bus lock (R37 to R39). -/
structure Lock where
  /-- `LOCK_READY`. -/
  ready : Bool
  /-- `LOCK_OWNER`; none is `NONE`. -/
  owner : Option Nat
  /-- `LOCK_WAITERS`, a set of (client, device) pairs, held in rising order. -/
  waiters : List (Nat × Nat)
  deriving DecidableEq, Repr

/-! ### Devices -/

/-- A device: its descriptor (R50), its session (R55), and what has been sent to it. No step changes a
descriptor field other than `hc` (R32). -/
structure Device where
  /-- `d.clock`. -/
  clock : ClockWord
  /-- `d.mode`: bit 1 the clock idle polarity, bit 0 the sampling edge. -/
  mode : BitVec 2
  /-- `d.bit_order`. -/
  bitOrder : BitOrder
  /-- `d.cs_mode`. -/
  csMode : CsMode
  /-- `d.shared_io`. -/
  sharedIo : Bool
  /-- `d.demux`: `DEMUX_BITS` bits as a number. The pins are given it by `State.selector`, in that width. -/
  demux : Nat
  /-- `d.hc`, the high-capacity flag (R52). -/
  hc : Bool
  /-- `d.session` (R55). -/
  session : Session
  /-- The MOSI bits this device has been sent: while it was selected with chip-select asserted, in time
  order. Part of a run's observation (R467), read by no rule. -/
  wire : List Bool
  deriving DecidableEq, Repr

/-! ### Clients and the sequencer context -/

/-- The engine operations a sequencer program is made of (spec/40_engine.md); `readTmp` is
`read_result(tmp)` into the context (R251). -/
inductive EngineOp
  | acquire (dev : Nat)
  | release
  | setClock (word : ClockWord)
  | csAssert
  | csDeassert
  | reset
  | setCommand (len : Nat) (value : BitVec 16)
  | setAddress (len : Nat) (value : BitVec 32)
  | setOutput (len : Nat) (bytes : List Byte)
  | setOutputPattern (len : Nat) (word : BitVec 32)
  | configureExec (bigEndianOut : Bool) (dummyCycles recvBits : Nat) (bigEndianIn : Bool)
  | execute
  | wait
  | readTmp
  deriving DecidableEq, Repr

/-- The named steps of the sequencer's programs, the values of `SEQ_PC` (R58). -/
inductive SeqPc
  /-- A pseudo-operation that a client runs by itself (R161). -/
  | pseudo
  /-- The CMD55 of an application command that a client runs by itself (R132, R161, R266). -/
  | pseudoAppCmd
  -- spec/42_sd_init.md R290
  /-- I0: `acquire(d)`. -/
  | i0Acquire
  /-- I0: the clock has been set; the flag and the session are cleared. -/
  | i0Clear
  /-- I1: wake clocks. -/
  | i1Wake
  /-- I2: GO_IDLE_STATE. -/
  | i2GoIdleState
  /-- I3: SEND_IF_COND. -/
  | i3SendIfCond
  /-- I4: entry of the bring-up loop. -/
  | i4BringUp
  /-- I4: the CMD55 of an attempt. -/
  | i4AppCmd
  /-- I4: the ACMD41 of an attempt. -/
  | i4SendOpCond
  /-- I4: an attempt with CMD1. -/
  | i4Legacy
  /-- I4: the deadline check after an attempt. -/
  | i4Deadline
  /-- I5: READ_OCR. -/
  | i5ReadOcr
  /-- I6: SET_BLOCKLEN. -/
  | i6SetBlocklen
  /-- I7: success exit. -/
  | i7Ready
  /-- IF(e): failure exit. -/
  | iFail (e : ErrKind)
  -- spec/43_block_io.md and spec/44_registers.md
  /-- `begin_op(d)`: `acquire(d)`, then the device check. -/
  | beginOp
  /-- `begin_op(d)`: `cs_assert()`. -/
  | beginCs
  /-- R331: READ_SINGLE_BLOCK or READ_MULTIPLE_BLOCK. -/
  | rdCommand
  /-- R332: the data-start token of a block. -/
  | rdToken
  /-- R332: the 512 bytes of a block. -/
  | rdData
  /-- R332: the CRC trailer of a block. -/
  | rdTrailer
  /-- R334: STOP_TRANSMISSION. -/
  | rdStop
  /-- R339: WRITE_BLOCK. -/
  | wrCommand
  /-- R339: the start token 0xFE. -/
  | wrToken
  /-- R339: the 512 bytes. -/
  | wrData
  /-- R339: the 2 dummy CRC bytes. -/
  | wrTrailer
  /-- R339: the data-response token. -/
  | wrResponse
  /-- R345: the CMD55 of the pre-announcement. -/
  | mwAppCmd
  /-- R345: ACMD23. -/
  | mwEraseCount
  /-- R346: WRITE_MULTIPLE_BLOCK. -/
  | mwCommand
  /-- R347: the start token 0xFC of a block. -/
  | mwToken
  /-- R347: the 512 bytes of a block. -/
  | mwData
  /-- R347: the 2 dummy CRC bytes of a block. -/
  | mwTrailer
  /-- R347: the data-response token of a block. -/
  | mwResponse
  /-- R347: the not-busy wait after a block. -/
  | mwBusy
  /-- R349: the stop token 0xFD. -/
  | mwStopToken
  /-- R349: the not-busy wait after the stop token. -/
  | mwFinal
  /-- R348: the abort's STOP_TRANSMISSION, and the error to report. -/
  | mwAbort (e : ErrKind)
  /-- R355: ERASE_WR_BLK_START. -/
  | erStart
  /-- R355: ERASE_WR_BLK_END. -/
  | erEnd
  /-- R355: ERASE. -/
  | erErase
  /-- R370, R371: the register read command. -/
  | rgCommand
  /-- R370, R371: the data-start token. -/
  | rgToken
  /-- R370, R371: the 16 bytes. -/
  | rgData
  /-- R370, R371: the CRC trailer. -/
  | rgTrailer
  /-- R370, R371: the register image goes to the caller. -/
  | rgStore
  /-- The exit (`end_op(d)`, R275, or the exit of I7 and IF) is under way with this result. -/
  | leaving (r : Res)
  deriving DecidableEq, Repr

/-- Where a stream of received bytes goes (R255). -/
inductive Dest
  /-- Caller memory at this address. -/
  | memory (base : Nat)
  /-- The operation's local 16-byte image `w` (R370). -/
  | image
  /-- The 2-byte `scratch`. -/
  | scratch
  deriving DecidableEq, Repr

/-- What a primitive of spec/41_sequencer.md ended with. -/
inductive PrimResult
  /-- It completed and has no value. -/
  | ok
  /-- A command's status byte; its extended response is in the context's `ext` (R260). -/
  | reply (r1 : Byte)
  /-- The data-response token was a rejection (R272). -/
  | rejected
  /-- It raised Timeout. -/
  | timeout
  /-- It raised IOError. -/
  | ioError
  deriving DecidableEq, Repr

/-- Where in a primitive of spec/41_sequencer.md the context is, once the engine operations still to do
(`Ctx.micro`) are done. -/
inductive Phase
  /-- No primitive runs: the step `pc` names comes next. -/
  | ready
  /-- A byte of `wait_not_busy` is being read (R253); `forCmd` when it is the poll of `send_cmd` (R260). -/
  | pollBusy (forCmd : Bool)
  /-- The frame of a command is being sent (R260). -/
  | frame
  /-- Byte `n` of the response window is being read (R262). -/
  | window (n : Nat)
  /-- The 4 bytes of an extended response are being read (R264). -/
  | extended
  /-- A byte of `wait_token` is being read (R270). -/
  | pollToken
  /-- The data-response token is being read (R272). -/
  | dataResponse
  /-- A chunk of `stream_in` is being read: it goes to offset `off` of the destination, and `left` bytes
  are still to come, this chunk's among them (R255). -/
  | streamIn (dst : Dest) (off left : Nat)
  /-- A chunk of `stream_out` is being sent: `left` bytes from offset `off` of the buffer follow it (R256). -/
  | streamOut (base off left : Nat)
  /-- A group of engine operations is being done. -/
  | group
  /-- The primitive that step `pc` called has ended. -/
  | done (r : PrimResult)
  deriving DecidableEq, Repr

/-- The context of a client that is running a sequencer operation (R58). `none` in a local register is
`UNDEF`, its value before the operation writes it. -/
structure Ctx where
  /-- `SEQ_PC`. -/
  pc : SeqPc
  /-- The primitive under way. -/
  phase : Phase
  /-- The engine operations still to do before the phase goes on, first one first. -/
  micro : List EngineOp
  /-- The caller buffer that belongs to the operation until it returns: address and length (R99). -/
  claim : Option (Nat × Nat)
  /-- The bytes of the last `xfer_in` (R251). -/
  tmp : List Byte
  /-- The local register image `w` of R370. -/
  image : List Byte
  /-- `t0` of the bring-up loop (R299). -/
  t0 : Option Nat
  /-- `t0` of the deadline wait under way (R253, R270). -/
  pollT0 : Option Nat
  /-- The deadline `T` of that wait. -/
  limit : Option Nat
  /-- `r1`, the last status byte: it stays until the next command's status. -/
  r1 : Option Byte
  /-- `ext`, the last extended response. -/
  ext : Option (BitVec 32)
  /-- `cand`, the candidate card type. -/
  cand : Option Card
  /-- `first`, 1 on the first bring-up attempt. -/
  first : Option Bool
  /-- `k`, the block counter. -/
  k : Option Nat
  /-- `app` of the bring-up loop, 1 while an attempt is an application command (R290). -/
  app : Option Bool
  /-- `cmd_idx`, the index of the bring-up command. -/
  cmdIdx : Option (BitVec 6)
  /-- `cmd_arg`, the argument of the bring-up command. -/
  cmdArg : Option (BitVec 32)
  /-- The operands of the `send_cmd` under way (R260). -/
  cmd : Option Command
  deriving DecidableEq, Repr

/-- What an operation delivers to the client that called it. -/
inductive Result
  /-- An engine operation or a pseudo-operation without a value completed. -/
  | done
  /-- The result of a sequencer operation (R421). -/
  | seq (r : Res)
  /-- The `(r1, ext)` of a command run as a pseudo-operation (R260). -/
  | reply (r1 : Byte) (ext : Option (BitVec 32))
  /-- The bytes of an `xfer_in` run as a pseudo-operation (R251). -/
  | bytes (bs : List Byte)
  /-- `ready` (R400, R401). -/
  | ready
  /-- `not-ready` (R400, R401). -/
  | notReady
  /-- `ok` (R402, R403). -/
  | upOk
  /-- `io-error` (R402, R403). -/
  | upIoError
  /-- `write-protected` (R403), never returned. -/
  | upWriteProtected
  /-- A number (R404 to R406). -/
  | number (n : BitVec 32)
  deriving DecidableEq, Repr

/-- The pseudo-operations (R161), which have no encoding. Their operands are those of R251 to R253, R260, R266
and R270. -/
inductive PseudoOp
  | xferIn (n : Nat)
  | xferOut (bytes : List Byte)
  | waitNotBusy (limit : Nat)
  | sendCmd (idx : Nat) (arg : BitVec 32) (kind : RespKind)
  | acmd (idx : Nat) (arg : BitVec 32) (kind : RespKind)
  | waitToken (limit : Nat)
  deriving DecidableEq, Repr

/-- What a client asks for. -/
inductive Request
  /-- An instruction, by its bytes at a port. -/
  | encoded (call : Call)
  /-- A pseudo-operation. -/
  | pseudo (op : PseudoOp)
  deriving DecidableEq, Repr

/-- A client (R30): what it has still to call (an input from outside, the call under way first), what it
has been given back (R467), and the context of the sequencer operation it runs. -/
structure Client where
  calls : List Request
  results : List Result
  ctx : Option Ctx
  deriving DecidableEq, Repr

/-! ### The state -/

/-- The answers of the environment that are already fixed: whose turn it is, what the card's next MISO bits
are, how much `TIME` grows at the next reads. Where a list is used up the answer is a free value of
`Config`. These are the model's own fields (assumption 4). -/
structure Env where
  sched : List Config.Agent
  miso : List Bool
  ticks : List Nat
  /-- The number of free values drawn so far. -/
  draws : Nat
  deriving DecidableEq, Repr

/-- The state of the SD/SPI block. -/
structure State where
  /-- The OPEN parameters (R12), which no step changes. -/
  cfg : Config.Params
  /-- The bus lock (R37 to R39). -/
  lock : Lock
  /-- The engine field registers and `BUSY` (R40 to R47). -/
  engine : Engine
  /-- `XFER_IN_LEN` (R63). -/
  xferInLen : Option Nat
  /-- `SNAP` (R63). -/
  snap : Option Snap
  /-- The configuration latch (R48). -/
  latch : Latch
  /-- The lines (R49). -/
  lines : Lines
  /-- The devices, by id; `NUM_DEVICES` is their number (R50). -/
  devices : List Device
  /-- The clients, by id; `NUM_CLIENTS` is their number (R30). -/
  clients : List Client
  /-- Caller memory (R17, R84): address and byte, addresses strictly rising, no zero byte listed. -/
  mem : List Host.Cell
  /-- `TIME` in milliseconds (R36). -/
  time : Nat
  /-- The environment's answers. -/
  env : Env
  /-- The client whose step is being taken (the id in a request, R120). -/
  cur : Nat
  deriving DecidableEq, Repr

/-- Why the machine stops with a fault: never. "`fault` is not used. The block has no fault mechanism; its
two errors are results" (spec/93_implementation_defined.md, R424), so this type has no constructor. -/
inductive Fault : Type
  deriving DecidableEq, Repr

/-- Why an operation is refused: the model gives the call no meaning (R18, R425). Every one of these is
safe: the spec itself refuses the call, so no claim may rest on what follows it. -/
inductive Refusal
  /-- The dispatcher, for an instruction without a meaning yet. Safe. -/
  | notModelled (mnemonic : String)
  /-- `step`, for bytes that spell no instruction (R122). Safe. -/
  | illegalEncoding (e : DecodeError)
  /-- Every engine operation but bus_init and acquire, by a client that does not own the bus (R205). Safe. -/
  | notOwner
  /-- Every engine operation of the owner but wait and read_result, while BUSY = 1 (R205, R473), and where
  `Config.busyAcquireWaits` says so the acquire of another client (R425; log entry 11). Safe. -/
  | busy
  /-- An operand outside its range (R206, R251, R252, R260), or a device id that is not below NUM_DEVICES (R202).
  Safe. -/
  | range
  /-- bus_init when LOCK_READY = 1 (R200). Safe. -/
  | lockExists
  /-- acquire (R202), and a block-device operation (R200, R452), when LOCK_READY = 0. Safe. -/
  | noLock
  /-- cs_assert and cs_deassert in hardware-timed chip-select mode (R208, R209). Safe. -/
  | csMode
  /-- execute with an UNDEF field in use (R216, R425), and every other rule that needs the value of a register that is
  UNDEF: "reading `UNDEF` where a rule needs its value refuses the operation" (R16). The spec gives these registers
  the value UNDEF at power-on (R62) and before an operation (R58). Safe. -/
  | undefField
  /-- execute with OUT_BE or IN_BE and a length that is not a multiple of 32 (R83, R85). Safe. -/
  | beLength
  /-- read_result before any execute: "refused when `XFER_IN_LEN` is `UNDEF` (no transaction since power-on)" (R218,
  R425). Safe. -/
  | noTransfer
  /-- A sequencer operation on a device that is not SD-usable (R51). Safe. -/
  | notSdDevice
  /-- sd_read and sd_write with count = 0 (R330, R338). Safe. -/
  | countZero
  /-- A block number whose card address does not fit in 32 bits (R91). Safe. -/
  | addrRange
  /-- An access to a caller buffer that another client's operation owns (R99). Safe. -/
  | bufferOwned
  /-- A command, response or token where the client's sequencer context does not take one, or a context
  that belongs to another operation. No request of a client leads there from a state without a context,
  except a response or token that no operation of the client reads. Safe. -/
  | outOfPhase
  deriving DecidableEq, Repr

/-! ### Reset -/

/-- The engine at power-on: BUSY = 0, every other register UNDEF (R47, R62). -/
def Engine.reset : Engine where
  cmdEn := none
  cmdLen := none
  cmdVal := none
  addrEn := none
  addrLen := none
  addrVal := none
  outEn := none
  outLen := none
  outBuf := List.replicate 64 none
  dummyLen := none
  inLen := none
  inBuf := List.replicate 64 none
  outBe := none
  inBe := none
  busy := false

/-- A device at power-on: the descriptor of the spec's own test set-up
(spec/95_test_vectors.md, assumption 6), `hc` the caller's value (R53), the session of R62. -/
def Device.reset (d demux : Nat) : Device where
  clock := Config.callerClock d
  mode := 0
  bitOrder := .msbFirst
  csMode := .software
  sharedIo := false
  demux := demux
  hc := false
  session := .uninitialized
  wire := []

/-- A client at power-on: nothing called, nothing running (R62, R460). -/
def Client.reset : Client where
  calls := []
  results := []
  ctx := none

/-- The machine at power-on (R62, R460). The values of the OPEN parameters are the nominal ones of R12 and
the numbers of devices and clients are assumption 6's. -/
def State.reset : State where
  cfg :=
    { tBusy := 100, tInit := 500, tIo := 100, handshakeClock := Config.handshakeClock, demuxBits := 2 }
  lock := { ready := false, owner := none, waiters := [] }
  engine := Engine.reset
  xferInLen := none
  snap := none
  latch :=
    { dev := none, clock := none, mode := none, bitOrder := none, csMode := none, sharedIo := none }
  lines := { cs := none, demux := none, mosi := none, sclk := 0 }
  devices := [Device.reset 0 2, Device.reset 1 3]
  clients := [Client.reset, Client.reset, Client.reset]
  mem := []
  time := Config.timeAtReset
  env := { sched := [], miso := [], ticks := [], draws := 0 }
  cur := 0

end Sys2Proof.Machine
end

