-- ==== Sys2Proof/Machine/Ops.lean ====
section
/-! DEFINITION. The named operations over the state: its updates, caller memory, the environment's answers,
and the delivery of a result. The block has no exceptions (R424, R430, R433): an error is a result, and
`State.complete` is the one operation that delivers it. -/

namespace Sys2Proof.Machine

open Sys2Proof

/-! ### Updates of one part of the state -/

/-- The state with another bus lock. -/
def State.withLock (s : State) (l : Lock) : State := { s with lock := l }

/-- The state with other engine registers. -/
def State.withEngine (s : State) (e : Engine) : State := { s with engine := e }

/-- The state with another XFER_IN_LEN. -/
def State.withXfer (s : State) (n : Option Nat) : State := { s with xferInLen := n }

/-- The state with another SNAP. -/
def State.withSnap (s : State) (p : Option Snap) : State := { s with snap := p }

/-- The state with another configuration latch. -/
def State.withLatch (s : State) (l : Latch) : State := { s with latch := l }

/-- The state with other lines. -/
def State.withLines (s : State) (l : Lines) : State := { s with lines := l }

/-- The state with other devices. -/
def State.withDevices (s : State) (ds : List Device) : State := { s with devices := ds }

/-- The state with other clients. -/
def State.withClients (s : State) (cs : List Client) : State := { s with clients := cs }

/-- The state with another caller memory. -/
def State.withMem (s : State) (m : List Host.Cell) : State := { s with mem := m }

/-- The state with another TIME. -/
def State.withTime (s : State) (t : Nat) : State := { s with time := t }

/-- The state with other answers of the environment. -/
def State.withEnv (s : State) (e : Env) : State := { s with env := e }

/-- The state in which client `c` takes the step. -/
def State.withCur (s : State) (c : Nat) : State := { s with cur := c }

/-- The state with chip-select driven to `v` (R49). -/
def State.withCs (s : State) (v : CsLine) : State := s.withLines { s.lines with cs := some v }

/-- The element of a list at `n`, changed. -/
def changeAt {α : Type} (f : α → α) : Nat → List α → List α
  | _, [] => []
  | 0, a :: l => f a :: l
  | n + 1, a :: l => a :: changeAt f n l

/-- The state with device `d` changed; as it was where there is no such device. -/
def State.changeDevice (s : State) (d : Nat) (f : Device → Device) : State :=
  s.withDevices (changeAt f d s.devices)

/-- The state with client `c` changed; as it was where there is no such client. -/
def State.changeClient (s : State) (c : Nat) (f : Client → Client) : State :=
  s.withClients (changeAt f c s.clients)

/-! ### Caller memory (R17, R84) -/

namespace Memory

/-- What a byte of caller memory that nothing has written reads as (assumption 5). -/
def unlisted : Byte := 0#8

/-- One byte at an address. -/
def read : List Host.Cell → Nat → Byte
  | [], _ => unlisted
  | (k, v) :: m, a => if a = k then v else read m a

/-- One byte written at an address. The canonical form is kept: addresses strictly rising, and no byte
listed that an unlisted address would read as. -/
def write : List Host.Cell → Nat → Byte → List Host.Cell
  | [], a, b => if b = unlisted then [] else [(a, b)]
  | (k, v) :: m, a, b =>
    if a < k then (if b = unlisted then (k, v) :: m else (a, b) :: (k, v) :: m)
    else if a = k then (if b = unlisted then m else (a, b) :: m)
    else (k, v) :: write m a b

/-- Every address is above `lo` and they rise strictly; no byte is the unlisted one. -/
def wfAbove : Nat → List Host.Cell → Bool
  | _, [] => true
  | lo, (k, v) :: m => decide (lo < k) && v != unlisted && wfAbove k m

/-- The canonical form. -/
def wf : List Host.Cell → Bool
  | [] => true
  | (k, v) :: m => v != unlisted && wfAbove k m

/-- `MemRead(base, n)` (R17). -/
def readBytes (m : List Host.Cell) (base : Nat) : Nat → List Byte
  | 0 => []
  | n + 1 => read m base :: readBytes m (base + 1) n

/-- `MemWrite(base, len(bs), bs)` (R17). -/
def writeBytes (m : List Host.Cell) (base : Nat) : List Byte → List Host.Cell
  | [] => m
  | b :: bs => writeBytes (write m base b) (base + 1) bs

end Memory

/-- The byte of caller memory at an address. -/
def State.byteAt (s : State) (a : Nat) : Byte := Memory.read s.mem a

/-! ### The environment's answers -/

/-- The next MISO bit the card answers: a draw (R33). -/
def State.drawBit (s : State) : Bool × State :=
  match s.env.miso with
  | b :: rest => (b, s.withEnv { s.env with miso := rest })
  | [] => (Config.freeBit s.env.draws, s.withEnv { s.env with draws := s.env.draws + 1 })

/-- `now()`: one read of the time source. The value is that of the last read and a drawn amount (R36). -/
def State.now (s : State) : Nat × State :=
  match s.env.ticks with
  | d :: rest => (s.time + d, (s.withTime (s.time + d)).withEnv { s.env with ticks := rest })
  | [] =>
    let t := s.time + Config.freeTick s.env.draws
    (t, (s.withTime t).withEnv { s.env with draws := s.env.draws + 1 })

/-- The agent that moves next, and the state without that choice. -/
def State.nextAgent (s : State) : Config.Agent × State :=
  match s.env.sched with
  | a :: rest => (a, s.withEnv { s.env with sched := rest })
  | [] => (Config.freeAgent s.env.draws, s.withEnv { s.env with draws := s.env.draws + 1 })

/-- A 32-bit draw (R384). -/
def State.drawCapacity (s : State) : BitVec 32 × State :=
  (Config.freeCapacity s.env.draws, s.withEnv { s.env with draws := s.env.draws + 1 })

/-- Whether the deadline `t0 + limit` has passed at a read of the time source (R441), and the state after
that read. -/
def State.deadline (s : State) (t0 limit : Nat) : Bool × State :=
  (decide (s.now.1 - t0 ≥ limit), s.now.2)

/-! ### Clients -/

/-- The sequencer context of the client that takes the step. -/
def State.ctx (s : State) : Option Ctx :=
  match s.clients[s.cur]? with
  | some cl => cl.ctx
  | none => none

/-- The client that takes the step has this context. -/
def State.withCtx (s : State) (x : Ctx) : State :=
  s.changeClient s.cur fun cl => { cl with ctx := some x }

/-- The operation under way returns: its result is delivered to the calling client (R60, R421), its context
ends, and the client goes on with its next call. -/
def State.complete (s : State) (r : Result) : State :=
  s.changeClient s.cur fun cl =>
    { calls := cl.calls.drop 1, results := cl.results ++ [r], ctx := none }

/-! ### Outcomes of an engine operation -/

/-- The three outcomes of an engine operation (R224): completion (with the bytes it reads, if it reads
any), blocking, or refusal. -/
inductive Flow
  | done (s : State) (bytes : Option (List Byte))
  | blocked (s : State)
  | refuse (r : Refusal)

/-- The outcome of a step of the machine. -/
abbrev Outcome := Host.Outcome State Fault Refusal

/-- An engine operation that a client requested by itself: when it completes the client has its return; a
blocked one stays under way. -/
def Flow.request : Flow → Outcome
  | .done s _ => .next (s.complete .done)
  | .blocked s => .next s
  | .refuse r => .refused r

end Sys2Proof.Machine
end

