-- ==== Sys2Proof/Machine/Operands.lean ====
section
/-! DEFINITION. The forms of operands: the bits a field puts on the wire, how received bits become bytes, a
block number as a card address, and access to a caller's buffer. -/

namespace Sys2Proof.Machine

open Sys2Proof

/-! ### From fields to MOSI bits (R82, R83) -/

/-- `field_bits(len, v, bo)`: the low `len` bits of a value in wire order (R82). -/
def fieldBits {w : Nat} (len : Nat) (v : BitVec w) : BitOrder → List Bool
  | .msbFirst => (List.range len).map fun i => v.getLsbD (len - 1 - i)
  | .lsbFirst => (List.range len).map fun i => v.getLsbD i

/-- `byte_bits(b, bo)`: the 8 bits of a byte in wire order (R82). -/
def byteBits (b : Byte) (bo : BitOrder) : List Bool := fieldBits 8 b bo

/-- Where in a 64-byte buffer stream byte `j` stands: in place, or reversed in its group of four (R83, R85). -/
def streamIndex (be : Bool) (j : Nat) : Nat := if be then 4 * (j / 4) + 3 - j % 4 else j

/-- A list whose elements are all defined. -/
def allDefined {α : Type} : List (Option α) → Option (List α)
  | [] => some []
  | none :: _ => none
  | some a :: l => (allDefined l).map (a :: ·)

/-- The first `n` bytes of the output byte stream (R83); none where one of them is UNDEF. -/
def outStream (buf : List (Option Byte)) (be : Bool) (n : Nat) : Option (List Byte) :=
  allDefined ((List.range n).map fun j => (buf[streamIndex be j]?).getD none)

/-- The output phase: the first `len` bits of the output stream (R82). -/
def outBits (len : Nat) (stream : List Byte) (bo : BitOrder) : List Bool :=
  (stream.flatMap fun b => byteBits b bo).take len

/-- A command or address phase: nothing where the field is absent, else its bits (R81, R82). None where the
enable, or a length or value in use, is UNDEF (R216). -/
def fieldPhase {w : Nat} (en : Option Bool) (len : Option Nat) (v : Option (BitVec w)) (bo : BitOrder) :
    Option (List Bool) :=
  match en, len, v with
  | some false, _, _ => some []
  | some true, some n, some x => some (fieldBits n x bo)
  | _, _, _ => none

/-- The output phase of the engine's fields (R82, R83); none where a field in use is UNDEF. -/
def outPhase (e : Engine) (be : Bool) (bo : BitOrder) : Option (List Bool) :=
  match e.outEn, e.outLen with
  | some false, _ => some []
  | some true, some n => (outStream e.outBuf be (ceil8 n)).map fun bs => outBits n bs bo
  | _, _ => none

/-! ### From MISO samples to bytes (R85) -/

/-- The byte whose 8 bits arrived in this time order (R85). -/
def packByte (bo : BitOrder) (bits : List Bool) : Byte :=
  match bo with
  | .msbFirst => BitVec.ofNat 8 (bits.foldl (fun n b => 2 * n + b.toNat) 0)
  | .lsbFirst => BitVec.ofNat 8 (bits.reverse.foldl (fun n b => 2 * n + b.toNat) 0)

/-- `n` free bits, the first of them draw number `k`. -/
def freeBits (k : Nat) : Nat → List Bool
  | 0 => []
  | n + 1 => Config.freeBit k :: freeBits (k + 1) n

/-- The stream bytes of `n` bytes' worth of samples (R85). -/
def packBytes (bo : BitOrder) (bits : List Bool) : Nat → List Byte
  | 0 => []
  | n + 1 => packByte bo (bits.take 8) :: packBytes bo (bits.drop 8) n

/-- The number of padding bits of the last input byte (R85). -/
def padCount (inLen : Nat) : Nat := 8 * ceil8 inLen - inLen

/-- The input stream bytes: the samples, the padding bits draws beginning with draw `k` (R85). -/
def inStream (bo : BitOrder) (samples : List Bool) (inLen k : Nat) : List Byte :=
  packBytes bo (samples ++ freeBits k (padCount inLen)) (ceil8 inLen)

/-- `IN_BUF` after a transaction: stream byte `j` at its place, every other byte as it was (R85, R222). -/
def storeStream (be : Bool) : Nat → List Byte → List (Option Byte) → List (Option Byte)
  | _, [], buf => buf
  | j, b :: bs, buf => storeStream be (j + 1) bs (buf.set (streamIndex be j) (some b))

/-! ### The physical field layout (R87), which no rule reads -/

/-- `rev_len(v)`: the bit reversal of the low `len` bits of a 16-bit value (R15). -/
def revLow (len : Nat) (v : BitVec 16) : BitVec 16 := v.reverse >>> (16 - len)

/-- What `set_command` stores in the physical command register: `rev_len(value)` when MSB-first, the value
when LSB-first. -/
def physCommand (len : Nat) (v : BitVec 16) : BitOrder → BitVec 16
  | .msbFirst => revLow len v
  | .lsbFirst => v

/-- The physical command register is shifted out least significant bit first, for `len` clocks. -/
def shiftCommand (len : Nat) (r : BitVec 16) : List Bool :=
  (List.range len).map fun i => r.getLsbD i

/-- What `set_address` stores in the physical address register: `value << (32 - len)` when MSB-first, the
32-bit reversal of the value when LSB-first. -/
def physAddress (len : Nat) (v : BitVec 32) : BitOrder → BitVec 32
  | .msbFirst => v <<< (32 - len)
  | .lsbFirst => v.reverse

/-- The physical address register is shifted out bit 31 first, for `len` clocks. -/
def shiftAddress (len : Nat) (r : BitVec 32) : List Bool :=
  (List.range len).map fun i => r.getLsbD (31 - i)

/-! ### Card addresses (R91) -/

/-- `addr(d, N)`: the 32-bit argument for block `n`; none where it does not fit. -/
def cardAddr (hc : Bool) (n : Nat) : Option (BitVec 32) :=
  if hc then (if n < 2 ^ 32 then some (BitVec.ofNat 32 n) else none)
  else (if n * 512 < 2 ^ 32 then some (BitVec.ofNat 32 (n * 512)) else none)

/-! ### The demux (R49, R446) -/

/-- What `DEMUX_PINS` carry for a device: its selector, in `DEMUX_BITS` bits (R49, R50, R446). -/
def State.selector (s : State) (d : Device) : Nat := d.demux % 2 ^ s.cfg.demuxBits

/-! ### Caller buffers (R17, R84, R99) -/

/-- Two stretches of memory share a byte. -/
def overlaps (a n b m : Nat) : Bool := decide (a < b + m) && decide (b < a + n) && decide (0 < n) && decide (0 < m)

/-- Some operation of a client other than number `c` owns a buffer that shares a byte with this stretch;
`i` is the id of the first client of the list. -/
def ownedByOther (c base n : Nat) : Nat → List Client → Bool
  | _, [] => false
  | i, cl :: rest =>
    (decide (i ≠ c) && (match cl.ctx with
      | some x => (match x.claim with
        | some (b, m) => overlaps base n b m
        | none => false)
      | none => false)) || ownedByOther c base n (i + 1) rest

/-- `MemRead` by the client that takes the step; none where another client's operation owns the buffer. -/
def State.readBuffer (s : State) (base n : Nat) : Option (List Byte) :=
  if ownedByOther s.cur base n 0 s.clients then none else some (Memory.readBytes s.mem base n)

/-- `MemWrite` by the client that takes the step; none where another client's operation owns the buffer. -/
def State.writeBuffer (s : State) (base : Nat) (bs : List Byte) : Option State :=
  if ownedByOther s.cur base bs.length 0 s.clients then none
  else some (s.withMem (Memory.writeBytes s.mem base bs))

end Sys2Proof.Machine
end

