-- ==== Sys2Proof/Machine/Flags.lean ====
section
/-! DEFINITION. Every test and every code of a status the spec gives: the R1 status byte (R127), the
comparisons of the sequencer (R265, R266), the OCR and echo tests (R128, R129), the session's fields (R55 to
R57), and the numeric codes (R57, R410, R422). The block has no condition-code register (R61). -/

namespace Sys2Proof.Machine

open Sys2Proof

/-! ### The R1 status byte (R127) -/

/-- Bit 0: in idle state. -/
def r1Idle (r : Byte) : Bool := r.getLsbD 0
/-- Bit 1: erase reset. -/
def r1EraseReset (r : Byte) : Bool := r.getLsbD 1
/-- Bit 2: illegal command. -/
def r1IllegalCommand (r : Byte) : Bool := r.getLsbD 2
/-- Bit 3: command CRC error. -/
def r1CrcError (r : Byte) : Bool := r.getLsbD 3
/-- Bit 4: erase sequence error. -/
def r1EraseSequence (r : Byte) : Bool := r.getLsbD 4
/-- Bit 5: address error. -/
def r1AddressError (r : Byte) : Bool := r.getLsbD 5
/-- Bit 6: parameter error. -/
def r1ParameterError (r : Byte) : Bool := r.getLsbD 6

/-- A byte the response window takes as a status: bit 7 is 0 (R127, R262). -/
def isStatus (b : Byte) : Bool := !b.getLsbD 7

/-- `accepted(r1)`: the command was not rejected (R265). -/
def accepted (r1 : Byte) : Bool := decide (r1 = 0x00#8)

/-- A status above 1: a CMD55 failure (R266), or an unsupported bring-up command (R301). -/
def aboveIdle (r1 : Byte) : Bool := decide (r1.toNat > 1)

/-! ### Tests on extended responses -/

/-- The echo of SEND_IF_COND is right: `ext[11:0] = 0x1AA` (R129, R297). -/
def echoOk (ext : BitVec 32) : Bool := decide (ext.extractLsb' 0 12 = 0x1AA#12)

/-- Both the power-up bit (31) and the capacity-status bit (30) of the OCR are set (R128, R305). -/
def ocrHighCapacity (ocr : BitVec 32) : Bool := ocr.getLsbD 31 && ocr.getLsbD 30

/-- The data-response token is accepted: `(b & 0x0F) = 0x05` (R136, R272). -/
def dataAccepted (b : Byte) : Bool := decide (b &&& 0x0F#8 = 0x05#8)

/-! ### The session register (R55 to R57) -/

/-- `STATE` with its number. -/
inductive SessionState
  | uninitialized | ready | failed
  deriving DecidableEq, Repr

/-- `TYPE` with the value Unrecognized. -/
inductive CardType
  | unrecognized
  | known (card : Card)
  deriving DecidableEq, Repr

/-- The field `STATE`. -/
def Session.stateField : Session → SessionState
  | .uninitialized => .uninitialized
  | .ready _ => .ready
  | .failed _ => .failed

/-- The field `TYPE`. -/
def Session.typeField : Session → CardType
  | .ready c => .known c
  | _ => .unrecognized

/-- The field `FAIL`; none is `NONE`. -/
def Session.failField : Session → Option ErrKind
  | .failed e => some e
  | _ => none

/-- UNINITIALIZED = 0, READY = 1, FAILED = 2 (R57). -/
def SessionState.code : SessionState → Nat
  | .uninitialized => 0
  | .ready => 1
  | .failed => 2

/-- Unrecognized = 0, MMC = 1, SDv1 = 2, SDv2 = 3, SDHC = 4 (R57). -/
def CardType.code : CardType → Nat
  | .unrecognized => 0
  | .known .mmc => 1
  | .known .sdV1 => 2
  | .known .sdV2 => 3
  | .known .sdhc => 4

/-! ### Result codes -/

/-- The result an error is reported as (R421). -/
def ErrKind.res : ErrKind → Res
  | .timeout => .timeout
  | .ioError => .ioError

/-- Ok = 0, Timeout = 1, IOError = 2, CRCError = 3 (R422). -/
def Res.code : Res → Nat
  | .ok => 0
  | .timeout => 1
  | .ioError => 2
  | .crcError => 3

/-- The code of an upward result: `ready` = 0, `not-ready` = 1; `ok` = 0, `io-error` = 1,
`write-protected` = 2 (R410); a number is itself; a sequencer result has the code of R422. -/
def Result.code : Result → Option Nat
  | .done => none
  | .seq r => some r.code
  | .reply _ _ => none
  | .bytes _ => none
  | .ready => some 0
  | .notReady => some 1
  | .upOk => some 0
  | .upIoError => some 1
  | .upWriteProtected => some 2
  | .number n => some n.toNat

/-- The upward result of `initialize` (R401). -/
def Result.ofInit : Res → Result
  | .ok => .ready
  | _ => .notReady

/-- The upward result of `read` and `write` (R402, R403). -/
def Result.ofIo : Res → Result
  | .ok => .upOk
  | _ => .upIoError

/-! ### Descriptor codes (R50) -/

/-- `bit_order`: 0 is MSB-first, 1 LSB-first. -/
def BitOrder.code : BitOrder → Nat
  | .msbFirst => 0
  | .lsbFirst => 1

/-- `cs_mode`: 0 is hardware-timed, 1 software-driven. -/
def CsMode.code : CsMode → Nat
  | .hardware => 0
  | .software => 1

/-- The clock idle polarity of a transfer mode (R50). -/
def idlePolarity (mode : BitVec 2) : Bool := mode.getLsbD 1

/-- The sampling edge of a transfer mode (R50). -/
def samplingEdge (mode : BitVec 2) : Bool := mode.getLsbD 0

/-- A device a sequencer operation accepts: MSB-first, software-driven chip-select, mode 0 (R51). -/
def Device.sdUsable (d : Device) : Bool :=
  decide (d.bitOrder = .msbFirst) && decide (d.csMode = .software) && decide (d.mode = 0)

/-- Device `d` is selected: chip-select is asserted and the bus was acquired for it (R33, R446). -/
def State.selected (s : State) (d : Nat) : Bool :=
  decide (s.lines.cs = some .asserted) && decide (s.latch.dev = some d)

end Sys2Proof.Machine
end

