-- ==== Sys2Proof/Machine/Engine.lean ====
section
/-! DEFINITION. The bus transaction engine's operations (spec/40_engine.md), each as the one shared function
`…Op` that both a client's own request and the sequencer's programs use, and the meanings of the requests. -/

namespace Sys2Proof.Machine

open Sys2Proof

/-! ### Guards (R205, R206) -/

/-- The ownership guard: LOCK_READY = 1 and the client owns the bus (R205). -/
def State.owns (s : State) (c : Nat) : Bool := s.lock.ready && decide (s.lock.owner = some c)

/-- An operation of the owner that is allowed while a transaction is in flight (wait, read_result). -/
def owned (c : Nat) (s : State) (body : Flow) : Flow :=
  if s.owns c then body else .refuse .notOwner

/-- An operation of the owner that needs BUSY = 0 (R205). -/
def ownedIdle (c : Nat) (s : State) (body : Flow) : Flow :=
  owned c s (if s.engine.busy then .refuse .busy else body)

/-- The range guard (R206): refused, never clamped or masked. -/
def inRange (ok : Bool) (body : Flow) : Flow :=
  if ok then body else .refuse .range

/-! ### Lock and arbitration (R200 to R204) -/

/-- `bus_init()` (R200). -/
def busInitOp (s : State) : Flow :=
  if s.lock.ready then .refuse .lockExists
  else .done (s.withLock { ready := true, owner := none, waiters := [] }) none

/-- A pair comes before another in the canonical order of the set of waiters. -/
def waiterLt (p q : Nat × Nat) : Bool :=
  decide (p.1 < q.1) || (decide (p.1 = q.1) && decide (p.2 < q.2))

/-- `LOCK_WAITERS ∪ {p}`, in the canonical order. -/
def insertWaiter (p : Nat × Nat) : List (Nat × Nat) → List (Nat × Nat)
  | [] => [p]
  | q :: l =>
    if p = q then q :: l
    else if waiterLt p q then p :: q :: l
    else q :: insertWaiter p l

/-- `LOCK_WAITERS \ {p}`. -/
def removeWaiter (p : Nat × Nat) (l : List (Nat × Nat)) : List (Nat × Nat) := l.filter fun q => q ≠ p

/-- The configuration latch for a device (R202). -/
def latchOf (dev : Nat) (d : Device) : Latch where
  dev := some dev
  clock := some d.clock
  mode := some d.mode
  bitOrder := some d.bitOrder
  csMode := some d.csMode
  sharedIo := some d.sharedIo

/-- `grant(c, dev)`: the client becomes owner and the bus is programmed for the device (R202). -/
def grant (c dev : Nat) (d : Device) (s : State) : State :=
  ((s.withLock { s.lock with owner := some c, waiters := removeWaiter (c, dev) s.lock.waiters }).withLatch
    (latchOf dev d)).withLines
    { s.lines with demux := some (s.selector d), cs := some .deasserted }

/-- A call of `acquire` is refused for BUSY = 1 (R425 row 5). The owner's always is (R473). Another client's is, or it
waits, as `Config.busyAcquireWaits` has it; a client that is among the waiters already does not call again, and goes on
waiting (R202). Log entry 11. -/
def busyRefused (c dev : Nat) (s : State) : Bool :=
  s.engine.busy &&
    (decide (s.lock.owner = some c) || (!decide ((c, dev) ∈ s.lock.waiters) && !Config.busyAcquireWaits))

/-- `acquire(dev)` by client `c` (R202, R203). With the bus free the grant fires in this step; otherwise the
client is put among the waiters and blocked, unless the call is refused for BUSY = 1. Its later steps come here
again: they are its grant step, which is enabled when the owner is NONE. -/
def acquireOp (c dev : Nat) (s : State) : Flow :=
  if s.lock.ready = false then .refuse .noLock
  else match s.devices[dev]? with
    | none => .refuse .range
    | some d =>
      if s.lock.owner = none then .done (grant c dev d s) none
      else if busyRefused c dev s then .refuse .busy
      else .blocked (s.withLock { s.lock with waiters := insertWaiter (c, dev) s.lock.waiters })

/-- `release()` (R204): the owner becomes NONE and nothing else changes. -/
def releaseOp (c : Nat) (s : State) : Flow :=
  ownedIdle c s (.done (s.withLock { s.lock with owner := none }) none)

/-! ### Bus lines (R207 to R209) -/

/-- `set_clock(word)` (R207). -/
def setClockOp (c : Nat) (word : ClockWord) (s : State) : Flow :=
  ownedIdle c s (.done (s.withLatch { s.latch with clock := some word }) none)

/-- Drive chip-select by software: refused in hardware-timed mode (R208, R209), and while `CFG_CS_MODE`, which the rule
reads, is UNDEF (R16; 93_implementation_defined.md row 16 names the latch). -/
def driveCs (c : Nat) (v : CsLine) (s : State) : Flow :=
  ownedIdle c s (match s.latch.csMode with
    | some .software => .done (s.withCs v) none
    | some .hardware => .refuse .csMode
    | none => .refuse .undefField)

/-- `cs_assert()` (R208). -/
def csAssertOp (c : Nat) (s : State) : Flow := driveCs c .asserted s

/-- `cs_deassert()` (R209). -/
def csDeassertOp (c : Nat) (s : State) : Flow := driveCs c .deasserted s

/-! ### Field builder (R210 to R215) -/

/-- The engine fields after `reset()`: the enables, DUMMY_LEN, IN_LEN and the byte-order flags 0, the other
fields UNDEF, IN_BUF and BUSY kept (R210). -/
def Engine.cleared (e : Engine) : Engine where
  cmdEn := some false
  cmdLen := none
  cmdVal := none
  addrEn := some false
  addrLen := none
  addrVal := none
  outEn := some false
  outLen := none
  outBuf := List.replicate 64 none
  dummyLen := some 0
  inLen := some 0
  inBuf := e.inBuf
  outBe := some false
  inBe := some false
  busy := e.busy

/-- `reset()` (R210). -/
def resetOp (c : Nat) (s : State) : Flow :=
  ownedIdle c s (.done (s.withEngine s.engine.cleared) none)

/-- `set_command(len, value)` (R211): `len` in 1..16, `value < 2^len`. -/
def setCommandOp (c len : Nat) (value : BitVec 16) (s : State) : Flow :=
  ownedIdle c s (inRange (decide (1 ≤ len) && decide (len ≤ 16) && decide (value.toNat < 2 ^ len))
    (.done (s.withEngine { s.engine with cmdEn := some true, cmdLen := some len, cmdVal := some value })
      none))

/-- `set_address(len, value)` (R212): `len` in 1..32, `value < 2^len`. -/
def setAddressOp (c len : Nat) (value : BitVec 32) (s : State) : Flow :=
  ownedIdle c s (inRange (decide (1 ≤ len) && decide (len ≤ 32) && decide (value.toNat < 2 ^ len))
    (.done (s.withEngine { s.engine with addrEn := some true, addrLen := some len, addrVal := some value })
      none))

/-- OUT_BUF holding these bytes, the rest UNDEF (R213). -/
def outBufOf (bytes : List Byte) : List (Option Byte) :=
  bytes.map some ++ List.replicate (64 - bytes.length) none

/-- `set_output(len, bytes)` (R213): `len` in 1..512, exactly `ceil8 len` bytes. -/
def setOutputOp (c len : Nat) (bytes : List Byte) (s : State) : Flow :=
  ownedIdle c s (inRange (decide (1 ≤ len) && decide (len ≤ 512) && decide (bytes.length = ceil8 len))
    (.done (s.withEngine
      { s.engine with outEn := some true, outLen := some len, outBuf := outBufOf bytes }) none))

/-- OUT_BUF holding the pattern word's bytes, least significant first, 16 times (R214). -/
def patternBuf (word : BitVec 32) : List (Option Byte) :=
  (List.range 64).map fun i => some (word.extractLsb' (8 * (i % 4)) 8)

/-- `set_output_pattern(len, word)` (R214): `len` in 1..512. -/
def setOutputPatternOp (c len : Nat) (word : BitVec 32) (s : State) : Flow :=
  ownedIdle c s (inRange (decide (1 ≤ len) && decide (len ≤ 512))
    (.done (s.withEngine
      { s.engine with outEn := some true, outLen := some len, outBuf := patternBuf word }) none))

/-- `configure_exec(...)` (R215): `dummy_cycles` in 0..256, `recv_bits` in 0..512. -/
def configureExecOp (c : Nat) (beo : Bool) (dummy recv : Nat) (bei : Bool) (s : State) : Flow :=
  ownedIdle c s (inRange (decide (dummy ≤ 256) && decide (recv ≤ 512))
    (.done (s.withEngine
      { s.engine with
        outBe := some beo, dummyLen := some dummy, inLen := some recv, inBe := some bei }) none))

/-! ### Execution (R216 to R218) -/

/-- The transaction the fields describe (R80 to R83): the driven bits, and the lengths of the dummy and
input phases. None where an enable, a flag, or a field in use is UNDEF (R216). -/
def Engine.phases (e : Engine) (bo : BitOrder) : Option (List Bool × Nat × Nat) :=
  match e.outBe, e.inBe, e.dummyLen, e.inLen with
  | some obe, some _, some dl, some il =>
    match fieldPhase e.cmdEn e.cmdLen e.cmdVal bo, fieldPhase e.addrEn e.addrLen e.addrVal bo,
        outPhase e obe bo with
    | some a, some b, some d => some (a ++ b ++ d, dl, il)
    | _, _, _ => none
  | _, _, _, _ => none

/-- OUT_BE with an output length, or IN_BE with an input length, that is not a multiple of 32 (R83, R85). -/
def Engine.badBeLength (e : Engine) : Bool :=
  (decide (e.outEn = some true) && decide (e.outBe = some true) && decide ((e.outLen.getD 0) % 32 ≠ 0)) ||
  (decide (e.inLen.getD 0 > 0) && decide (e.inBe = some true) && decide ((e.inLen.getD 0) % 32 ≠ 0))

/-- The snapshot `execute` takes (R63, R216): MOSI carries the driven bits, then 1 in the dummy and input
phases (R81, R82). -/
def snapOf (bits : List Bool) (dummy inLen : Nat) (inBe : Bool) (bo : BitOrder) (cm : CsMode) : Snap where
  mosi := bits ++ List.replicate (dummy + inLen) true
  driven := bits.length
  inLen := inLen
  inBe := inBe
  bitOrder := bo
  csMode := cm
  pos := 0
  samples := []

/-- The state after `execute` has started this transaction (R216). -/
def State.started (s : State) (p : Snap) : State :=
  ((s.withSnap (some p)).withXfer (some p.inLen)).withEngine { s.engine with busy := true }

/-- `execute()` (R216), which refuses an UNDEF field in use; the latch's two fields are read under R16. -/
def executeOp (c : Nat) (s : State) : Flow :=
  ownedIdle c s (match s.latch.bitOrder, s.latch.csMode with
    | some bo, some cm =>
      match s.engine.phases bo with
      | none => .refuse .undefField
      | some (bits, dl, il) =>
        if s.engine.badBeLength then .refuse .beLength
        else .done (s.started (snapOf bits dl il (decide (s.engine.inBe = some true)) bo cm)) none
    | _, _ => .refuse .undefField)

/-- `wait()` (R217): completes in the first step at which BUSY = 0. -/
def waitOp (c : Nat) (s : State) : Flow :=
  owned c s (if s.engine.busy then .blocked s else .done s none)

/-- `read_result` up to its copy (R218): waits as `wait` does, then gives the `ceil8(XFER_IN_LEN)` bytes. R218 refuses it
while `XFER_IN_LEN` is UNDEF, "no transaction since power-on"; a byte of IN_BUF that is UNDEF is refused by R16, and
in states of `Inv` there is none among those it copies. -/
def readResultOp (c : Nat) (s : State) : Flow :=
  owned c s (match s.xferInLen with
    | none => .refuse .noTransfer
    | some n =>
      if s.engine.busy then .blocked s
      else match allDefined (s.engine.inBuf.take (ceil8 n)) with
        | some bs => .done s (some bs)
        | none => .refuse .undefField)

/-- An engine operation of a sequencer program, by client `c`. -/
def engineOp (c : Nat) (op : EngineOp) (s : State) : Flow :=
  match op with
  | .acquire dev => acquireOp c dev s
  | .release => releaseOp c s
  | .setClock w => setClockOp c w s
  | .csAssert => csAssertOp c s
  | .csDeassert => csDeassertOp c s
  | .reset => resetOp c s
  | .setCommand len v => setCommandOp c len v s
  | .setAddress len v => setAddressOp c len v s
  | .setOutput len bs => setOutputOp c len bs s
  | .setOutputPattern len w => setOutputPatternOp c len w s
  | .configureExec beo d r bei => configureExecOp c beo d r bei s
  | .execute => executeOp c s
  | .wait => waitOp c s
  | .readTmp => readResultOp c s

/-- What a client may start only as the owner of an idle bus: the guard of R205. -/
def requireIdleBus (s : State) (k : Outcome) : Outcome :=
  match ownedIdle s.cur s (.done s none) with
  | .refuse r => .refused r
  | _ => k

/-! ### The meanings of the requests -/

/-- `bus_init` (R200). -/
def execBusInit (s : State) : Outcome := (busInitOp s).request

/-- `acquire` (R202). -/
def execAcquire (dev : Nat) (s : State) : Outcome := (acquireOp s.cur dev s).request

/-- `release` (R204). -/
def execRelease (s : State) : Outcome := (releaseOp s.cur s).request

/-- `set_clock` (R207). -/
def execSetClock (word : ClockWord) (s : State) : Outcome := (setClockOp s.cur word s).request

/-- `cs_assert` (R208). -/
def execCsAssert (s : State) : Outcome := (csAssertOp s.cur s).request

/-- `cs_deassert` (R209). -/
def execCsDeassert (s : State) : Outcome := (csDeassertOp s.cur s).request

/-- `reset` (R210). -/
def execReset (s : State) : Outcome := (resetOp s.cur s).request

/-- `set_command` (R211). -/
def execSetCommand (len : Nat) (value : BitVec 16) (s : State) : Outcome :=
  (setCommandOp s.cur len value s).request

/-- `set_address` (R212). -/
def execSetAddress (len : Nat) (value : BitVec 32) (s : State) : Outcome :=
  (setAddressOp s.cur len value s).request

/-- `set_output` (R213): the bytes are read from the caller, `MemRead(bytes, ceil8(len))`. -/
def execSetOutput (len bytes : Nat) (s : State) : Outcome :=
  match s.readBuffer bytes (ceil8 len) with
  | some bs => (setOutputOp s.cur len bs s).request
  | none => .refused .bufferOwned

/-- `set_output_pattern` (R214). -/
def execSetOutputPattern (len : Nat) (word : BitVec 32) (s : State) : Outcome :=
  (setOutputPatternOp s.cur len word s).request

/-- `configure_exec` (R215). -/
def execConfigureExec (beo : Bool) (dummy recv : Nat) (bei : Bool) (s : State) : Outcome :=
  (configureExecOp s.cur beo dummy recv bei s).request

/-- `execute` (R216). -/
def execExecute (s : State) : Outcome := (executeOp s.cur s).request

/-- `wait` (R217). -/
def execWait (s : State) : Outcome := (waitOp s.cur s).request

/-- `read_result` (R218): once BUSY = 0, `MemWrite(buf, ceil8(XFER_IN_LEN), IN_BUF[0 ..])`. -/
def execReadResult (buf : Nat) (s : State) : Outcome :=
  match readResultOp s.cur s with
  | .done s' bs =>
    match s'.writeBuffer buf (bs.getD []) with
    | some s'' => .next (s''.complete .done)
    | none => .refused .bufferOwned
  | f => f.request

end Sys2Proof.Machine
end

