-- ==== Sys2Proof/Machine/Primitives.lean ====
section
/-! DEFINITION. The primitives of spec/41_sequencer.md as plain functions on a sequencer context: what each
one asks of the engine, and what it does with the byte or bytes it has read.

Every step of a client that runs a sequencer operation is one engine operation, or one of the decisions
below (R31, R59, R491). `Ctx.micro` holds the engine operations that come first. -/

namespace Sys2Proof.Machine

open Sys2Proof

/-! ### Groups of engine operations -/

/-- `xfer_in(n)` (R251). -/
def xferIn (n : Nat) : List EngineOp :=
  [.reset, .configureExec false 0 (8 * n) false, .execute, .readTmp]

/-- `xfer_out(bs)` (R252). -/
def xferOut (bs : List Byte) : List EngineOp :=
  [.reset, .setOutput (8 * bs.length) bs, .configureExec false 0 0 false, .execute, .wait]

/-- The frame transaction of a command (R124, R260). -/
def frameOps (c : Command) : List EngineOp :=
  [.reset, .setCommand 8 ((frameHead c.idx).setWidth 16), .setAddress 32 c.arg,
    .setOutput 8 [frameCrcByte c.idx c.arg], .configureExec false 0 0 false, .execute, .wait]

/-- The wake clocks: chip-select deasserted, 80 clocks with MOSI at 1, chip-select asserted (R294). -/
def wakeOps : List EngineOp :=
  [.csDeassert, .reset, .setOutputPattern Config.wakeClocks 0xFFFFFFFF#32,
    .configureExec false 0 0 false, .execute, .wait, .csAssert]

/-- `end_op(d)` (R275). -/
def endOps : List EngineOp := [.csDeassert, .release]

/-! ### Changes of the context -/

/-- The primitive has ended. -/
def Ctx.finish (x : Ctx) (r : PrimResult) : Ctx := { x with phase := .done r, micro := [] }

/-- The program goes on at step `pc`. -/
def Ctx.goto (x : Ctx) (pc : SeqPc) : Ctx := { x with pc := pc, phase := .ready, micro := [] }

/-- A group of engine operations is to be done, and then the program's step `pc` goes on. -/
def Ctx.engine (x : Ctx) (pc : SeqPc) (ops : List EngineOp) : Ctx :=
  { x with pc := pc, phase := .group, micro := ops }

/-- The operation leaves with this result by these engine operations (R275, R309, R310). -/
def Ctx.leave (x : Ctx) (r : Res) (ops : List EngineOp) : Ctx := x.engine (.leaving r) ops

/-- The outcome in which the client's context is `x`. -/
def State.goOn (s : State) (x : Ctx) : Outcome := .next (s.withCtx x)

/-- A context at the start of an operation: every local register UNDEF (R58). -/
def Ctx.start (pc : SeqPc) (claim : Option (Nat × Nat)) : Ctx where
  pc := pc
  phase := .ready
  micro := []
  claim := claim
  tmp := []
  image := []
  t0 := none
  pollT0 := none
  limit := none
  r1 := none
  ext := none
  cand := none
  first := none
  k := none
  app := none
  cmdIdx := none
  cmdArg := none
  cmd := none

/-! ### Starting a primitive -/

/-- A deadline wait starts in this phase: `t0 <- now()`, and the first byte is read (R253, R270). -/
def startPoll (s : State) (x : Ctx) (ph : Phase) (limit : Nat) : Outcome :=
  s.now.2.goOn { x with phase := ph, micro := xferIn 1, pollT0 := some s.now.1, limit := some limit }

/-- `wait_not_busy(T)` starts (R253). `forCmd` when a command waits behind it (R260). -/
def startPollBusy (s : State) (x : Ctx) (forCmd : Bool) (limit : Nat) : Outcome :=
  startPoll s x (.pollBusy forCmd) limit

/-- `send_cmd(idx, arg, kind)` starts with its `wait_not_busy(T_BUSY)` (R260). -/
def startCommand (s : State) (x : Ctx) (c : Command) : Outcome :=
  startPollBusy s { x with cmd := some c } true s.cfg.tBusy

/-- `wait_token(T)` starts (R270). -/
def startPollToken (s : State) (x : Ctx) (limit : Nat) : Outcome := startPoll s x .pollToken limit

/-- `data_response()` starts: exactly one byte is read (R272). -/
def startDataResponse (s : State) (x : Ctx) : Outcome :=
  s.goOn { x with phase := .dataResponse, micro := xferIn 1 }

/-- `stream_in(dst, 0, n)` starts: the first chunk (R255). -/
def startStreamIn (s : State) (x : Ctx) (dst : Dest) (n : Nat) : Outcome :=
  s.goOn { x with phase := .streamIn dst 0 n, micro := xferIn (min Config.chunk n) }

/-- `stream_out(base, off, left)`: the next chunk is read from the caller and sent (R256). -/
def sendChunk (s : State) (x : Ctx) (base off left : Nat) : Outcome :=
  let n := min Config.chunk left
  match s.readBuffer (base + off) n with
  | none => .refused .bufferOwned
  | some bs => s.goOn { x with phase := .streamOut base (off + n) (left - n), micro := xferOut bs }

/-- `xfer_out(bs)` as a primitive of its own (R252). -/
def startXferOut (s : State) (x : Ctx) (bs : List Byte) : Outcome :=
  s.goOn { x with phase := .group, micro := xferOut bs }

/-! ### What a primitive does with what it has read -/

/-- A byte that does not end a deadline wait: Timeout if the deadline has passed, else the next byte is read
(R253, R270). An UNDEF `t0` refuses (R16, R58). -/
def pollAgain (s : State) (x : Ctx) : Outcome :=
  match x.pollT0, x.limit with
  | some t0, some limit =>
    let d := s.deadline t0 limit
    d.2.goOn (if d.1 then x.finish .timeout else { x with micro := xferIn 1 })
  | none, _ => .refused .undefField
  | _, none => .refused .outOfPhase

/-- A byte of `wait_not_busy` other than 0xFF (R253). -/
def busyByte (s : State) (x : Ctx) : Outcome := pollAgain s x

/-- The byte 0xFF in `wait_not_busy`: the card is not busy, whatever the time (R253, R429). A command goes on
with its frame (R260). -/
def notBusy (s : State) (x : Ctx) (forCmd : Bool) : Outcome :=
  if forCmd then
    match x.cmd with
    | none => .refused .outOfPhase
    | some c => s.goOn { x with phase := .frame, micro := frameOps c }
  else s.goOn (x.finish .ok)

/-- Byte `n` of the response window has bit 7 set: Timeout after the last byte of the window, else the next
byte is read (R262). -/
def windowMiss (s : State) (x : Ctx) (n : Nat) : Outcome :=
  s.goOn (if Config.ncrMax ≤ n then x.finish .timeout
    else { x with phase := .window (n + 1), micro := xferIn 1 })

/-- The status byte of a command ends the response window (R262) and makes `ext` UNDEF (R260); the command ends,
or 4 more bytes are read whatever the status is (R264). -/
def takeStatus (s : State) (x : Ctx) (r1 : Byte) : Outcome :=
  match x.cmd with
  | none => .refused .outOfPhase
  | some c =>
    let x := { x with r1 := some r1, ext := none }
    s.goOn (match c.kind with
      | .r1 => x.finish (.reply r1)
      | _ => { x with phase := .extended, micro := xferIn 4 })

/-- The 4 bytes of an extended response end the command (R264). -/
def takeExtended (s : State) (x : Ctx) (r1 : Byte) (ext : BitVec 32) : Outcome :=
  s.goOn ({ x with r1 := some r1, ext := some ext }.finish (.reply r1))

/-- The byte 0xFF in `wait_token` (R270). -/
def tokenFiller (s : State) (x : Ctx) : Outcome := pollAgain s x

/-- The byte 0xFE in `wait_token`: the data follows (R270). -/
def tokenFound (s : State) (x : Ctx) : Outcome := s.goOn (x.finish .ok)

/-- Any other byte in `wait_token`: IOError (R271). -/
def tokenError (s : State) (x : Ctx) : Outcome := s.goOn (x.finish .ioError)

/-- Bytes of a stream go to their destination (R255); none where another client's operation owns the buffer. -/
def storeAt (s : State) (x : Ctx) (dst : Dest) (off : Nat) (bs : List Byte) : Option (State × Ctx) :=
  match dst with
  | .memory base => (s.writeBuffer (base + off) bs).map fun s' => (s', x)
  | .image => some (s, { x with image := x.image.take off ++ bs })
  | .scratch => some (s, x)

/-- A chunk of `stream_in` has been read: it is stored, and the next chunk is read if one is left (R255). -/
def chunkIn (s : State) (x : Ctx) (dst : Dest) (off left : Nat) : Outcome :=
  match storeAt s x dst off x.tmp with
  | none => .refused .bufferOwned
  | some (s', x') =>
    let rest := left - x.tmp.length
    s'.goOn (if rest = 0 ∨ x.tmp = [] then x'.finish .ok
      else { x' with
        phase := .streamIn dst (off + x.tmp.length) rest
        micro := xferIn (min Config.chunk rest) })

/-- A chunk of `stream_out` has been sent: the next one, if one is left (R256). -/
def chunkOut (s : State) (x : Ctx) (base off left : Nat) : Outcome :=
  if left = 0 then s.goOn (x.finish .ok) else sendChunk s x base off left

/-! ### One engine operation of the context -/

/-- The context after its first engine operation `op` has completed and given these bytes. -/
def Ctx.advance (x : Ctx) (rest : List EngineOp) (bytes : Option (List Byte)) : Ctx :=
  { x with micro := rest, tmp := bytes.getD x.tmp }

/-- The client does the first engine operation of its context (R491). One that blocks stays first. -/
def runMicro (s : State) (x : Ctx) (op : EngineOp) (rest : List EngineOp) : Outcome :=
  match engineOp s.cur op s with
  | .done s' bytes => s'.goOn (x.advance rest bytes)
  | .blocked s' => s'.goOn x
  | .refuse r => .refused r

end Sys2Proof.Machine
end

