-- ==== Sys2Proof/Machine/Responses.lean ====
section
/-! DEFINITION. The meanings of the rows a card's answer can be: the responses (R127 to R129), the tokens of
the data line (R134) and the data-response token (R136). A row's meaning is what the sequencer does when it
reads that answer where its primitive reads one. The tokens 0xFE, 0xFC and 0xFD are also sent, by a write
(R339, R347, R349) or by a client that owns the bus (`xfer_out`, R161, R252). -/

namespace Sys2Proof.Machine

open Sys2Proof

/-- The context of the client, once the engine operations of its primitive are done: where an answer of the
card is read. -/
def receiving (s : State) (k : Ctx → Outcome) : Outcome :=
  match s.ctx with
  | some x => if x.micro = [] then k x else .refused .outOfPhase
  | none => .refused .outOfPhase

/-- R1 (R127): the status byte in the response window. -/
def execR1Status (st : BitVec 7) (s : State) : Outcome :=
  receiving s fun x =>
    match x.phase with
    | .window _ => takeStatus s x (0#1 ++ st)
    | _ => .refused .outOfPhase

/-- The command being answered has this response kind. -/
def Ctx.answers (x : Ctx) (k : RespKind) : Bool :=
  match x.cmd with
  | some c => decide (c.kind = k)
  | none => false

/-- R3 (R128): the status and the OCR of READ_OCR. -/
def execR3StatusOcr (st : BitVec 7) (o : BitVec 32) (s : State) : Outcome :=
  receiving s fun x =>
    match x.phase with
    | .extended => if x.answers .r3 then takeExtended s x (0#1 ++ st) o else .refused .outOfPhase
    | _ => .refused .outOfPhase

/-- R7 (R129): the status and the echo of SEND_IF_COND; bits 31 to 12 are kept and not examined. -/
def execR7StatusEcho (st : BitVec 7) (hi : BitVec 20) (echo : BitVec 12) (s : State) : Outcome :=
  receiving s fun x =>
    match x.phase with
    | .extended => if x.answers .r7 then takeExtended s x (0#1 ++ st) (hi ++ echo) else .refused .outOfPhase
    | _ => .refused .outOfPhase

/-- The byte 0xFF (R134): not busy, no token yet, or a gap of the response window. In place of a
data-response token it is a rejection (R340). -/
def execFillerNotBusy (s : State) : Outcome :=
  receiving s fun x =>
    match x.phase with
    | .pollBusy forCmd => notBusy s x forCmd
    | .pollToken => tokenFiller s x
    | .window n => windowMiss s x n
    | .dataResponse => s.goOn (x.finish .rejected)
    | _ => .refused .outOfPhase

/-- A token other than filler, read where a primitive reads a byte: busy in the not-busy poll (R253), a gap
in the response window (R262), a rejection as data response (R136), and `inWait` in the token wait. -/
def receiveToken (s : State) (x : Ctx) (inWait : Outcome) : Outcome :=
  match x.phase with
  | .pollBusy _ => busyByte s x
  | .window n => windowMiss s x n
  | .pollToken => inWait
  | .dataResponse => s.goOn (x.finish .rejected)
  | _ => .refused .outOfPhase

/-- A token other than filler, sent or read. A program at its token step sends it, and a client without a
context that owns the bus sends it as a pseudo-operation (R161, R252). -/
def tokenRow (tok : Byte) (inWait : State → Ctx → Outcome) (s : State) : Outcome :=
  match s.ctx with
  | none => requireIdleBus s (startXferOut s (Ctx.start .pseudo none) [tok])
  | some x =>
    match x.micro with
    | op :: rest => if x.pc = .pseudo then runMicro s x op rest else .refused .outOfPhase
    | [] =>
      match x.phase with
      | .ready => startXferOut s x [tok]
      | .group => if x.pc = .pseudo then .next (s.complete .done) else .refused .outOfPhase
      | _ => receiveToken s x (inWait s x)

/-- 0xFE (R134): the data-start token of a read, a register read or a single write. -/
def execDataStartToken (s : State) : Outcome := tokenRow 0xFE#8 tokenFound s

/-- 0xFC (R134): the start token of each block of a multi-block write. -/
def execMultiBlockWriteStartToken (s : State) : Outcome := tokenRow 0xFC#8 tokenError s

/-- 0xFD (R134): the stop token of a multi-block write. -/
def execMultiBlockStopToken (s : State) : Outcome := tokenRow 0xFD#8 tokenError s

/-- The data-response token with low nibble 0b0101: accepted (R136, R272). -/
def execDataResponseAccepted (_x : BitVec 4) (s : State) : Outcome :=
  receiving s fun x =>
    match x.phase with
    | .dataResponse => s.goOn (x.finish .ok)
    | _ => .refused .outOfPhase

/-- The data-response token with any other low nibble: rejected (R136, R272). -/
def execDataResponseRejected (_x _n : BitVec 4) (s : State) : Outcome :=
  receiving s fun x =>
    match x.phase with
    | .dataResponse => s.goOn (x.finish .rejected)
    | _ => .refused .outOfPhase

end Sys2Proof.Machine
end

