-- ==== Sys2Proof/Machine/Sequencer.lean ====
section
/-! DEFINITION. How a client runs a sequencer program (R31, R58, R59): the engine operations of the primitive
under way, then what the primitive does with the card's answer, then the program's own next step. -/

namespace Sys2Proof.Machine

open Sys2Proof

/-- A byte of a poll that is no token (R134): busy, or an error token (R253, R271). -/
def strayByte (s : State) (x : Ctx) : Outcome :=
  match x.phase with
  | .pollBusy _ => busyByte s x
  | _ => tokenError s x

/-- The byte of a poll, read at the token port, is given its row's meaning. -/
def receivePoll (s : State) (x : Ctx) : Outcome :=
  match decodeToken x.tmp with
  | .ok (.fillerNotBusy, _) => execFillerNotBusy s
  | .ok (.dataStartToken, _) => execDataStartToken s
  | .ok (.multiBlockWriteStartToken, _) => execMultiBlockWriteStartToken s
  | .ok (.multiBlockStopToken, _) => execMultiBlockStopToken s
  | _ => strayByte s x

/-- A byte of the response window: a status byte has its row's meaning, any other byte is a gap (R262). -/
def receiveWindow (s : State) (x : Ctx) (n : Nat) : Outcome :=
  match decodeResponse .r1 x.tmp with
  | .ok (.r1Status st, _) => execR1Status st s
  | _ => windowMiss s x n

/-- The status byte and the 4 bytes behind it, read at the port of the command's response kind (R130). -/
def receiveExtended (s : State) (x : Ctx) : Outcome :=
  match x.r1, x.cmd with
  | some r1, some c =>
    (match decodeResponse c.kind (r1 :: x.tmp) with
      | .ok (.r3StatusOcr st o, _) => execR3StatusOcr st o s
      | .ok (.r7StatusEcho st hi echo, _) => execR7StatusEcho st hi echo s
      | _ => .refused .outOfPhase)
  | none, _ => .refused .undefField
  | _, none => .refused .outOfPhase

/-- The data-response token is given its row's meaning (R272). -/
def receiveDataResponse (s : State) (x : Ctx) : Outcome :=
  match decodeDataResponse x.tmp with
  | .ok (.dataResponseAccepted hi, _) => execDataResponseAccepted hi s
  | .ok (.dataResponseRejected hi n, _) => execDataResponseRejected hi n s
  | _ => .refused .outOfPhase

/-- The primitive under way goes on: its engine operations are done. -/
def primitiveStep (s : State) (x : Ctx) : Outcome :=
  match x.phase with
  | .pollBusy _ => receivePoll s x
  | .pollToken => receivePoll s x
  | .frame => s.goOn { x with phase := .window 1, micro := xferIn 1 }
  | .window n => receiveWindow s x n
  | .extended => receiveExtended s x
  | .dataResponse => receiveDataResponse s x
  | .streamIn dst off left => chunkIn s x dst off left
  | .streamOut base off left => chunkOut s x base off left
  | .group => s.goOn (x.finish .ok)
  | .ready => .refused .outOfPhase
  | .done _ => .refused .outOfPhase

/-- A sequencer program: what its step `pc` does, given the context and what the primitive that the step
called ended with (none before it is called). -/
abbrev Program := State → Ctx → Option PrimResult → Outcome

/-- One step of the client that runs a program in context `x`. -/
def runProgram (prog : Program) (s : State) (x : Ctx) : Outcome :=
  match x.micro with
  | op :: rest => runMicro s x op rest
  | [] =>
    match x.phase with
    | .ready => prog s x none
    | .done r => prog s x (some r)
    | _ => primitiveStep s x

/-- One step of the client whose call is a sequencer operation: the first step starts it at `start` and does
its first engine operation; a later step goes on in its context. -/
def operation (start : Ctx) (prog : Program) (s : State) : Outcome :=
  match s.ctx with
  | none => runProgram prog s start
  | some x => runProgram prog s x

/-- The context at the start of an operation whose first step is `acquire(dev)` (R275). -/
def opening (dev : Nat) (pc : SeqPc) (claim : Option (Nat × Nat)) : Ctx :=
  (Ctx.start pc claim).engine pc [.acquire dev]

end Sys2Proof.Machine
end

