-- ==== Sys2Proof/Machine/Commands.lean ====
section
/-! DEFINITION. The command primitives, and the meanings of the SD command frames (R131): `send_cmd(idx, arg, kind)`
of R260 with the row's index, argument and response kind. A sequencer program calls it at one of its command
steps; a client that owns the bus may run it by itself as a pseudo-operation (R161), and is then given
`(r1, ext)`, Timeout, or the IOError of an application command whose CMD55 failed (R266). -/

namespace Sys2Proof.Machine

open Sys2Proof

/-! ### Application commands (R266) -/

/-- CMD55 (R266). -/
def appCmd : Command := ⟨55, 0, .r1⟩

/-- `acmd(idx, arg, kind)` (R132, R266) as two steps of a program: `head` sends CMD55, and the other step sends the
frame of `c`. `failed` is what the caller does with the IOError of a CMD55 that failed, given the tag `app_status`
(R267), which is none for a Timeout; `frame` is the step after a CMD55 that did not fail; `done` is what the
caller does with the result of `send_cmd`, Timeout included. -/
def acmd (c : Option Command) (head frame : SeqPc) (failed : Option Byte → Outcome)
    (done : PrimResult → Outcome) : Program := fun s x r =>
  match r with
  | none =>
    (match (if x.pc = head then some appCmd else c) with
      | some cmd => startCommand s x cmd
      | none => .refused .undefField)
  | some p =>
    if x.pc = head then
      match p with
      | .reply s55 => if aboveIdle s55 then failed (some s55) else s.goOn (x.goto frame)
      | .timeout => failed none
      | _ => .refused .outOfPhase
    else done p

/-! ### Commands as pseudo-operations (R161) -/

/-- The end of a pseudo-operation: what its primitive ended with is the client's (R161). -/
def pseudoEnd (s : State) (x : Ctx) : PrimResult → Outcome
  | .reply r1 => .next (s.complete (.reply r1 x.ext))
  | .ok => .next (s.complete (.seq .ok))
  | .timeout => .next (s.complete (.seq .timeout))
  | .ioError => .next (s.complete (.seq .ioError))
  | .rejected => .refused .outOfPhase

/-- The program of a command or of a wait that a client runs by itself. -/
def pseudoProgram : Program := fun s x r =>
  match r with
  | some p => pseudoEnd s x p
  | none => .refused .outOfPhase

/-- The program of an application command that a client runs by itself. -/
def pseudoAcmd (c : Command) : Program := fun s x r =>
  acmd (some c) .pseudoAppCmd .pseudo (fun _ => .next (s.complete (.seq .ioError))) (pseudoEnd s x) s x r

/-- `send_cmd` of a command (R260): the step of a program that calls it, or a pseudo-operation. A program's device
has passed the check of R51 at its `begin_op`. A pseudo-operation makes no such check, since R51 asks it of
sequencer operations and says that engine operations accept every value: the frame then crosses the wire in the
latch's bit order, R125 or not. That is the model's choice (log entry 17). -/
def commandRow (c : Command) (s : State) : Outcome :=
  match s.ctx with
  | none => requireIdleBus s (startCommand s (Ctx.start .pseudo none) c)
  | some x =>
    if x.phase = .ready ∧ x.micro = [] then startCommand s x c
    else if x.pc = .pseudo then runProgram pseudoProgram s x
    else .refused .outOfPhase

/-- The frame of an application command (R132): the step of a program that calls it, after that program's CMD55;
as a pseudo-operation it is the whole of `acmd` (R266), CMD55 first, with no device check (`commandRow`). -/
def acmdRow (c : Command) (s : State) : Outcome :=
  match s.ctx with
  | none => requireIdleBus s (startCommand s (Ctx.start .pseudoAppCmd none) appCmd)
  | some x =>
    if x.phase = .ready ∧ x.micro = [] then startCommand s x c
    else if x.pc = .pseudo ∨ x.pc = .pseudoAppCmd then runProgram (pseudoAcmd c) s x
    else .refused .outOfPhase

/-! ### The rows -/

/-- CMD0 (R295). -/
def execCmd0GoIdleState (s : State) : Outcome := commandRow ⟨0, 0, .r1⟩ s

/-- CMD1 (R302). -/
def execCmd1SendOpCond (s : State) : Outcome := commandRow ⟨1, 0, .r1⟩ s

/-- CMD8 (R296). -/
def execCmd8SendIfCond (s : State) : Outcome := commandRow ⟨8, 0x1AA, .r7⟩ s

/-- CMD9 (R371). -/
def execCmd9SendCsd (s : State) : Outcome := commandRow ⟨9, 0, .r1⟩ s

/-- CMD10 (R370). -/
def execCmd10SendCid (s : State) : Outcome := commandRow ⟨10, 0, .r1⟩ s

/-- CMD12 (R334, R348). -/
def execCmd12StopTransmission (s : State) : Outcome := commandRow ⟨12, 0, .r1⟩ s

/-- CMD16 (R307). -/
def execCmd16SetBlocklen (s : State) : Outcome := commandRow ⟨16, 512, .r1⟩ s

/-- CMD17 (R331). -/
def execCmd17ReadSingleBlock (a : BitVec 32) (s : State) : Outcome := commandRow ⟨17, a, .r1⟩ s

/-- CMD18 (R331). -/
def execCmd18ReadMultipleBlock (a : BitVec 32) (s : State) : Outcome := commandRow ⟨18, a, .r1⟩ s

/-- CMD24 (R339). -/
def execCmd24WriteBlock (a : BitVec 32) (s : State) : Outcome := commandRow ⟨24, a, .r1⟩ s

/-- CMD25 (R346). -/
def execCmd25WriteMultipleBlock (a : BitVec 32) (s : State) : Outcome := commandRow ⟨25, a, .r1⟩ s

/-- CMD32 (R355). -/
def execCmd32EraseWrBlkStart (a : BitVec 32) (s : State) : Outcome := commandRow ⟨32, a, .r1⟩ s

/-- CMD33 (R355). -/
def execCmd33EraseWrBlkEnd (a : BitVec 32) (s : State) : Outcome := commandRow ⟨33, a, .r1⟩ s

/-- CMD38 (R355). -/
def execCmd38Erase (s : State) : Outcome := commandRow ⟨38, 0, .r1⟩ s

/-- CMD55 (R266). -/
def execCmd55AppCmd (s : State) : Outcome := commandRow appCmd s

/-- CMD58 (R305). -/
def execCmd58ReadOcr (s : State) : Outcome := commandRow ⟨58, 0, .r3⟩ s

/-- ACMD23 (R132, R345). -/
def execAcmd23SetWrBlkEraseCount (a : BitVec 32) (s : State) : Outcome := acmdRow ⟨23, a, .r1⟩ s

/-- ACMD41 with the high-capacity-support bit (R132, R300). -/
def execAcmd41SdV2Hcs (s : State) : Outcome := acmdRow ⟨41, 0x40000000, .r1⟩ s

/-- ACMD41 with argument 0 (R132, R301). -/
def execAcmd41SdV1 (s : State) : Outcome := acmdRow ⟨41, 0, .r1⟩ s

end Sys2Proof.Machine
end

