-- ==== Sys2Proof/Machine/SdInit.lean ====
section
/-! DEFINITION. The initialization state machine (spec/42_sd_init.md): the steps I0 to I7 and the failure exit
IF of `sd_initialize`. -/

namespace Sys2Proof.Machine

open Sys2Proof

/-- Go to the failure exit with this error. -/
def failInit (s : State) (x : Ctx) (e : ErrKind) : Outcome := s.goOn (x.goto (.iFail e))

/-- The session of device `d` is written. -/
def State.withSession (s : State) (d : Nat) (se : Session) : State :=
  s.changeDevice d fun dv => { dv with session := se }

/-- The high-capacity flag of device `d` is written. -/
def State.withHc (s : State) (d : Nat) (hc : Bool) : State :=
  s.changeDevice d fun dv => { dv with hc := hc }

/-- The exit of I7 and IF: the caller's clock is restored, chip-select deasserted, the bus released (R309,
R310). -/
def exitOps (d : Device) : List EngineOp := [.setClock d.clock, .csDeassert, .release]

/-- I0, the bus taken: the device check of R51, then the handshake clock (R291). -/
def initAcquired (d : Nat) (s : State) (x : Ctx) : Outcome :=
  match s.devices[d]? with
  | none => .refused .range
  | some dv =>
    if dv.sdUsable then s.goOn (x.engine .i0Clear [.setClock s.cfg.handshakeClock])
    else .refused .notSdDevice

/-- I0, the clock set: `hc <- 0` and the session UNINITIALIZED (R291). -/
def initClear (d : Nat) (s : State) (x : Ctx) : Outcome :=
  ((s.withHc d false).withSession d .uninitialized).goOn (x.goto .i1Wake)

/-- I2: the status of GO_IDLE_STATE must be 0x01 exactly (R295). -/
def initIdleReply (s : State) (x : Ctx) (r1 : Byte) : Outcome :=
  if r1 = 0x01#8 then s.goOn (x.goto .i3SendIfCond) else failInit s x .ioError

/-- I3: the classification of SEND_IF_COND's reply (R297, R298). -/
def initIfCondReply (s : State) (x : Ctx) (r1 : Byte) : Outcome :=
  if r1 = 0x05#8 then s.goOn ({ x with cand := some .sdV1 }.goto .i4BringUp)
  else match x.ext with
    | none => .refused .undefField
    | some e =>
      if r1 = 0x01#8 ∧ echoOk e then s.goOn ({ x with cand := some .sdV2 }.goto .i4BringUp)
      else failInit s x .ioError

/-- I4: the step that makes an attempt: the application command, or CMD1 for an MMC card (R300 to R302). -/
def attemptStep (app : Option Bool) : SeqPc := if app = some true then .i4AppCmd else .i4Legacy

/-- I4, entry: `t0 <- now(); first <- 1`, and the bring-up command is the application command 41, with the
high-capacity-support bit for an SD-v2 card and with argument 0 otherwise (R299 to R301). -/
def initBringUp (s : State) (x : Ctx) : Outcome :=
  s.now.2.goOn ({ x with
    t0 := some s.now.1
    first := some true
    app := some true
    cmdIdx := some 41
    cmdArg := some (if x.cand = some Card.sdV2 then 0x40000000 else 0) }.goto .i4AppCmd)

/-- I4: a status above 1. Where it may `switch`, on the first attempt of an SD-v1 candidate, the card is taken for
MMC and every later attempt is CMD1; otherwise IOError (R300 to R302). -/
def initUnsupported (s : State) (x : Ctx) (switch : Bool) : Outcome :=
  if switch = true ∧ x.cand = some .sdV1 ∧ x.first = some true then
    s.goOn ({ x with cand := some .mmc, app := some false }.goto .i4Deadline)
  else failInit s x .ioError

/-- I4: a failed CMD55 (R300, R301, R267): its status `app_status` may switch the card to MMC, its Timeout may
not. -/
def initAppFailed (s : State) (x : Ctx) (appStatus : Option Byte) : Outcome :=
  initUnsupported s x appStatus.isSome

/-- I4: the status of an attempt: 0x00 ends the loop, 0x01 keeps polling (R299 to R302). -/
def initAttemptReply (s : State) (x : Ctx) (r1 : Byte) : Outcome :=
  if r1 = 0x00#8 then s.goOn (x.goto .i5ReadOcr)
  else if r1 = 0x01#8 then s.goOn (x.goto .i4Deadline)
  else initUnsupported s x (decide (x.app = some true))

/-- I4: what an attempt ended with (R299 to R302). -/
def initAttemptEnd (s : State) (x : Ctx) : PrimResult → Outcome
  | .reply r1 => initAttemptReply s x r1
  | .timeout => failInit s x .timeout
  | _ => .refused .outOfPhase

/-- The bring-up command of the context, `cmd_idx` and `cmd_arg` (R58). -/
def Ctx.bringUp (x : Ctx) : Option Command :=
  match x.cmdIdx, x.cmdArg with
  | some idx, some arg => some ⟨idx, arg, .r1⟩
  | _, _ => none

/-- I4: an attempt with the application command: `acmd(idx, arg, R1)` (R300, R301). -/
def initAcmd : Program := fun s x r =>
  acmd x.bringUp .i4AppCmd .i4SendOpCond (initAppFailed s x) (initAttemptEnd s x) s x r

/-- I4: the deadline check after an attempt that does not end the loop (R299). -/
def initDeadline (s : State) (x : Ctx) : Outcome :=
  match x.t0 with
  | none => .refused .undefField
  | some t0 =>
    let d := s.deadline t0 s.cfg.tInit
    let x := { x with first := some false }
    if d.1 then failInit d.2 x .timeout else d.2.goOn (x.goto (attemptStep x.app))

/-- I5: READ_OCR for SD-v2 only (R305). -/
def initReadOcr (s : State) (x : Ctx) : Outcome :=
  if x.cand = some .sdV2 then execCmd58ReadOcr s else s.goOn (x.goto .i6SetBlocklen)

/-- I5: the OCR sets the high-capacity flag when its power-up and capacity bits are both set (R305). -/
def initOcrReply (d : Nat) (s : State) (x : Ctx) (r1 : Byte) : Outcome :=
  if accepted r1 then
    match x.ext with
    | none => .refused .undefField
    | some ocr =>
      if ocrHighCapacity ocr then
        (s.withHc d true).goOn ({ x with cand := some .sdhc }.goto .i6SetBlocklen)
      else s.goOn (x.goto .i6SetBlocklen)
  else failInit s x .ioError

/-- I6: SET_BLOCKLEN for a card that is not high-capacity (R307). -/
def initBlocklen (d : Nat) (s : State) (x : Ctx) : Outcome :=
  match s.devices[d]? with
  | none => .refused .range
  | some dv => if dv.hc then s.goOn (x.goto .i7Ready) else execCmd16SetBlocklen s

/-- I6: the status of SET_BLOCKLEN (R307). -/
def initBlocklenReply (s : State) (x : Ctx) (r1 : Byte) : Outcome :=
  if accepted r1 then s.goOn (x.goto .i7Ready) else failInit s x .ioError

/-- I7: the session READY with the type, then the exit (R309). -/
def initReady (d : Nat) (s : State) (x : Ctx) : Outcome :=
  match s.devices[d]?, x.cand with
  | some dv, some card => (s.withSession d (.ready card)).goOn (x.leave .ok (exitOps dv))
  | none, _ => .refused .range
  | _, none => .refused .undefField

/-- IF(e): the session FAILED with the error, then the exit (R310). -/
def initFail (d : Nat) (e : ErrKind) (s : State) (x : Ctx) : Outcome :=
  match s.devices[d]? with
  | none => .refused .range
  | some dv => (s.withSession d (.failed e)).goOn (x.leave e.res (exitOps dv))

/-- The program of `sd_initialize(d)` (R290). `deliver` is the result set of the caller's operation. -/
def initProgram (d : Nat) (deliver : Res → Result) : Program := fun s x r =>
  match x.pc, r with
  | .i0Acquire, some .ok => initAcquired d s x
  | .i0Clear, some .ok => initClear d s x
  | .i1Wake, none => s.goOn (x.engine .i1Wake wakeOps)
  | .i1Wake, some .ok => s.goOn (x.goto .i2GoIdleState)
  | .i2GoIdleState, none => execCmd0GoIdleState s
  | .i2GoIdleState, some (.reply r1) => initIdleReply s x r1
  | .i2GoIdleState, some .timeout => failInit s x .timeout
  | .i3SendIfCond, none => execCmd8SendIfCond s
  | .i3SendIfCond, some (.reply r1) => initIfCondReply s x r1
  | .i3SendIfCond, some .timeout => failInit s x .timeout
  | .i4BringUp, none => initBringUp s x
  | .i4AppCmd, r => initAcmd s x r
  | .i4SendOpCond, r => initAcmd s x r
  | .i4Legacy, none => execCmd1SendOpCond s
  | .i4Legacy, some p => initAttemptEnd s x p
  | .i4Deadline, none => initDeadline s x
  | .i5ReadOcr, none => initReadOcr s x
  | .i5ReadOcr, some (.reply r1) => initOcrReply d s x r1
  | .i5ReadOcr, some .timeout => failInit s x .timeout
  | .i6SetBlocklen, none => initBlocklen d s x
  | .i6SetBlocklen, some (.reply r1) => initBlocklenReply s x r1
  | .i6SetBlocklen, some .timeout => failInit s x .timeout
  | .i7Ready, none => initReady d s x
  | .iFail e, none => initFail d e s x
  | .leaving res, some .ok => .next (s.complete (deliver res))
  | _, _ => .refused .outOfPhase

/-- One step of an initialization of device `d` whose result goes through `deliver`. -/
def initOperation (d : Nat) (deliver : Res → Result) (s : State) : Outcome :=
  operation (opening d .i0Acquire none) (initProgram d deliver) s

/-- `sd_initialize` (R290). -/
def execSdInitialize (dev : Nat) (s : State) : Outcome := initOperation dev .seq s

end Sys2Proof.Machine
end

