-- ==== Sys2Proof/Machine/BlockIo.lean ====
section
/-! DEFINITION. Block read, write and erase (spec/43_block_io.md). -/

namespace Sys2Proof.Machine

open Sys2Proof

/-! ### The steps every operation shares -/

/-- The operation leaves by `end_op` with this result (R275, R426). -/
def endWith (s : State) (x : Ctx) (r : Res) : Outcome := s.goOn (x.leave r endOps)

/-- `begin_op(d)`, the bus taken: the device check of R51, then `cs_assert()` (R275). -/
def beginAcquired (d : Nat) (s : State) (x : Ctx) : Outcome :=
  match s.devices[d]? with
  | none => .refused .range
  | some dv =>
    if dv.sdUsable then s.goOn (x.engine .beginCs [.csAssert]) else .refused .notSdDevice

/-- A command whose status must be 0x00: any other ends the operation in IOError (R265). -/
def afterCommand (s : State) (x : Ctx) (r1 : Byte) (next : SeqPc) : Outcome :=
  if accepted r1 then s.goOn (x.goto next) else endWith s x .ioError

/-- A block number as the argument of a command, with the device's flag as it stands now (R91). -/
def withAddr (d n : Nat) (s : State) (k : BitVec 32 → Outcome) : Outcome :=
  match s.devices[d]? with
  | none => .refused .range
  | some dv =>
    match cardAddr dv.hc n with
    | none => .refused .addrRange
    | some a => k a

/-- The block counter; the program's block steps come after it is written. -/
def withBlock (x : Ctx) (k : Nat → Outcome) : Outcome :=
  match x.k with
  | none => .refused .undefField
  | some n => k n

/-! ### Block read (R330 to R336) -/

/-- The read command: single for one block, multiple for more (R330, R331). -/
def readCommand (d first count : Nat) (s : State) : Outcome :=
  withAddr d first s fun a =>
    if count = 1 then execCmd17ReadSingleBlock a s else execCmd18ReadMultipleBlock a s

/-- The status of the read command; the first block follows (R331). -/
def readCommandReply (s : State) (x : Ctx) (r1 : Byte) : Outcome :=
  afterCommand s { x with k := some 0 } r1 .rdToken

/-- After a block's CRC trailer, which is dropped: the next block, or the end (R332 to R334). -/
def readNext (count : Nat) (s : State) (x : Ctx) : Outcome :=
  withBlock x fun k =>
    if k + 1 < count then s.goOn ({ x with k := some (k + 1) }.goto .rdToken)
    else if 1 < count then s.goOn ({ x with k := some (k + 1) }.goto .rdStop)
    else endWith s { x with k := some (k + 1) } .ok

/-- The status of the STOP_TRANSMISSION after the last block (R334). -/
def readStopReply (s : State) (x : Ctx) (r1 : Byte) : Outcome :=
  endWith s x (if accepted r1 then .ok else .ioError)

/-- The program of `sd_read(d, first, count, buf)` (R330). -/
def readProgram (d first count buf : Nat) (deliver : Res → Result) : Program := fun s x r =>
  match x.pc, r with
  | .beginOp, some .ok => beginAcquired d s x
  | .beginCs, some .ok => s.goOn (x.goto .rdCommand)
  | .rdCommand, none => readCommand d first count s
  | .rdCommand, some (.reply r1) => readCommandReply s x r1
  | .rdCommand, some .timeout => endWith s x .timeout
  | .rdToken, none => startPollToken s x s.cfg.tIo
  | .rdToken, some .ok => s.goOn (x.goto .rdData)
  | .rdToken, some .timeout => endWith s x .timeout
  | .rdToken, some .ioError => endWith s x .ioError
  | .rdData, none => withBlock x fun k => startStreamIn s x (.memory (buf + Config.block * k)) Config.block
  | .rdData, some .ok => s.goOn (x.goto .rdTrailer)
  | .rdTrailer, none => startStreamIn s x .scratch 2
  | .rdTrailer, some .ok => readNext count s x
  | .rdStop, none => execCmd12StopTransmission s
  | .rdStop, some (.reply r1) => readStopReply s x r1
  | .rdStop, some .timeout => endWith s x .timeout
  | .leaving res, some .ok => .next (s.complete (deliver res))
  | _, _ => .refused .outOfPhase

/-- One step of a block read whose result goes through `deliver`; `count = 0` is refused (R330). -/
def readOperation (d first count buf : Nat) (deliver : Res → Result) (s : State) : Outcome :=
  if count = 0 then .refused .countZero
  else operation (opening d .beginOp (some (buf, Config.block * count)))
    (readProgram d first count buf deliver) s

/-- `sd_read` (R330). -/
def execSdRead (dev first count buf : Nat) (s : State) : Outcome :=
  readOperation dev first count buf .seq s

/-! ### Block write (R338 to R350) -/

/-- Whether a multi-block write announces its block count: unless the session's type is MMC (R345). -/
def announces (dv : Device) : Bool := decide (dv.session.typeField ≠ .known .mmc)

/-- The first step of a write with the bus taken (R338, R345). -/
def writeStart (d count : Nat) (s : State) (x : Ctx) : Outcome :=
  if count = 1 then s.goOn (x.goto .wrCommand)
  else match s.devices[d]? with
    | none => .refused .range
    | some dv => s.goOn (x.goto (if announces dv then .mwAppCmd else .mwCommand))

/-- The data-response token of a single write (R339). -/
def writeSingleResponse (s : State) (x : Ctx) (ok : Bool) : Outcome :=
  endWith s x (if ok then .ok else .ioError)

/-- What the pre-announcement's ACMD23 ended with: its status must be 0x00 (R345). -/
def writeAnnounced (s : State) (x : Ctx) : PrimResult → Outcome
  | .reply r1 => afterCommand s x r1 .mwCommand
  | .timeout => endWith s x .timeout
  | _ => .refused .outOfPhase

/-- The pre-announcement `acmd(23, count, R1)`: the IOError of the application command is IOError (R345). -/
def writeAcmd (count : Nat) : Program := fun s x r =>
  acmd (some ⟨23, BitVec.ofNat 32 count, .r1⟩) .mwAppCmd .mwEraseCount (fun _ => endWith s x .ioError)
    (writeAnnounced s x) s x r

/-- The status of WRITE_MULTIPLE_BLOCK; the first block follows (R346). -/
def writeMultiReply (s : State) (x : Ctx) (r1 : Byte) : Outcome :=
  afterCommand s { x with k := some 0 } r1 .mwToken

/-- The data-response token of a block: a rejection aborts with IOError (R347, R348). -/
def writeBlockResponse (s : State) (x : Ctx) (ok : Bool) : Outcome :=
  s.goOn (x.goto (if ok then .mwBusy else .mwAbort .ioError))

/-- After a block's not-busy wait: the next block, or the stop token (R347, R349). -/
def writeNext (count : Nat) (s : State) (x : Ctx) : Outcome :=
  withBlock x fun k =>
    s.goOn ({ x with k := some (k + 1) }.goto (if k + 1 < count then .mwToken else .mwStopToken))

/-- The program of `sd_write(d, first, count, buf)` (R338). -/
def writeProgram (d first count buf : Nat) (deliver : Res → Result) : Program := fun s x r =>
  match x.pc, r with
  | .beginOp, some .ok => beginAcquired d s x
  | .beginCs, some .ok => writeStart d count s x
  -- R339: one block
  | .wrCommand, none => withAddr d first s fun a => execCmd24WriteBlock a s
  | .wrCommand, some (.reply r1) => afterCommand s x r1 .wrToken
  | .wrCommand, some .timeout => endWith s x .timeout
  | .wrToken, none => execDataStartToken s
  | .wrToken, some .ok => s.goOn (x.goto .wrData)
  | .wrData, none => sendChunk s x buf 0 Config.block
  | .wrData, some .ok => s.goOn (x.goto .wrTrailer)
  | .wrTrailer, none => startXferOut s x [0xFF#8, 0xFF#8]
  | .wrTrailer, some .ok => s.goOn (x.goto .wrResponse)
  | .wrResponse, none => startDataResponse s x
  | .wrResponse, some .ok => writeSingleResponse s x true
  | .wrResponse, some .rejected => writeSingleResponse s x false
  -- R345, R346: the announcement and the command of a multi-block write
  | .mwAppCmd, r => writeAcmd count s x r
  | .mwEraseCount, r => writeAcmd count s x r
  | .mwCommand, none => withAddr d first s fun a => execCmd25WriteMultipleBlock a s
  | .mwCommand, some (.reply r1) => writeMultiReply s x r1
  | .mwCommand, some .timeout => endWith s x .timeout
  -- R347: one block of it
  | .mwToken, none => execMultiBlockWriteStartToken s
  | .mwToken, some .ok => s.goOn (x.goto .mwData)
  | .mwData, none => withBlock x fun k => sendChunk s x (buf + Config.block * k) 0 Config.block
  | .mwData, some .ok => s.goOn (x.goto .mwTrailer)
  | .mwTrailer, none => startXferOut s x [0xFF#8, 0xFF#8]
  | .mwTrailer, some .ok => s.goOn (x.goto .mwResponse)
  | .mwResponse, none => startDataResponse s x
  | .mwResponse, some .ok => writeBlockResponse s x true
  | .mwResponse, some .rejected => writeBlockResponse s x false
  | .mwBusy, none => startPollBusy s x false s.cfg.tBusy
  | .mwBusy, some .ok => writeNext count s x
  | .mwBusy, some .timeout => s.goOn (x.goto (.mwAbort .timeout))
  -- R349: the stop token and the last not-busy wait
  | .mwStopToken, none => execMultiBlockStopToken s
  | .mwStopToken, some .ok => s.goOn (x.goto .mwFinal)
  | .mwFinal, none => startPollBusy s x false s.cfg.tBusy
  | .mwFinal, some .ok => endWith s x .ok
  | .mwFinal, some .timeout => endWith s x .timeout
  -- R348: the abort, whatever STOP_TRANSMISSION ends with
  | .mwAbort _, none => execCmd12StopTransmission s
  | .mwAbort e, some (.reply _) => endWith s x e.res
  | .mwAbort e, some .timeout => endWith s x e.res
  | .leaving res, some .ok => .next (s.complete (deliver res))
  | _, _ => .refused .outOfPhase

/-- One step of a block write whose result goes through `deliver`; `count = 0` is refused (R338). -/
def writeOperation (d first count buf : Nat) (deliver : Res → Result) (s : State) : Outcome :=
  if count = 0 then .refused .countZero
  else operation (opening d .beginOp (some (buf, Config.block * count)))
    (writeProgram d first count buf deliver) s

/-- `sd_write` (R338). -/
def execSdWrite (dev first count buf : Nat) (s : State) : Outcome :=
  writeOperation dev first count buf .seq s

/-! ### Erase (R355) -/

/-- The program of `sd_erase(d, first, last)` (R355). -/
def eraseProgram (d first last : Nat) : Program := fun s x r =>
  match x.pc, r with
  | .beginOp, some .ok => beginAcquired d s x
  | .beginCs, some .ok => s.goOn (x.goto .erStart)
  | .erStart, none => withAddr d first s fun a => execCmd32EraseWrBlkStart a s
  | .erStart, some (.reply r1) => afterCommand s x r1 .erEnd
  | .erStart, some .timeout => endWith s x .timeout
  | .erEnd, none => withAddr d last s fun a => execCmd33EraseWrBlkEnd a s
  | .erEnd, some (.reply r1) => afterCommand s x r1 .erErase
  | .erEnd, some .timeout => endWith s x .timeout
  | .erErase, none => execCmd38Erase s
  | .erErase, some (.reply r1) => endWith s x (if accepted r1 then .ok else .ioError)
  | .erErase, some .timeout => endWith s x .timeout
  | .leaving res, some .ok => .next (s.complete (.seq res))
  | _, _ => .refused .outOfPhase

/-- `sd_erase` (R355). -/
def execSdErase (dev first last : Nat) (s : State) : Outcome :=
  operation (opening dev .beginOp none) (eraseProgram dev first last) s

end Sys2Proof.Machine
end

