-- ==== Sys2Proof/Machine/Registers.lean ====
section
/-! DEFINITION. The CID and CSD registers (spec/44_registers.md): their reads, the decode of their fields, and
the capacity formulas. -/

namespace Sys2Proof.Machine

open Sys2Proof

/-! ### Register reads (R370, R371) -/

/-- The bytes the caller gets: the CID in the order received, the CSD reversed (R89, R370, R371). -/
def registerImage (reverse : Bool) (w : List Byte) : List Byte := if reverse then w.reverse else w

/-- The program of a register read. `reverse` is the CSD, with CMD9; otherwise the CID, with CMD10. `store`
is what is done with the register's bytes once all of them are in. -/
def registerProgram (d : Nat) (reverse : Bool) (store : State → Ctx → List Byte → Outcome)
    (deliver : State → Ctx → Res → Outcome) : Program := fun s x r =>
  match x.pc, r with
  | .beginOp, some .ok => beginAcquired d s x
  | .beginCs, some .ok => s.goOn (x.goto .rgCommand)
  | .rgCommand, none => if reverse then execCmd9SendCsd s else execCmd10SendCid s
  | .rgCommand, some (.reply r1) => afterCommand s x r1 .rgToken
  | .rgCommand, some .timeout => endWith s x .timeout
  | .rgToken, none => startPollToken s x s.cfg.tIo
  | .rgToken, some .ok => s.goOn (x.goto .rgData)
  | .rgToken, some .timeout => endWith s x .timeout
  | .rgToken, some .ioError => endWith s x .ioError
  | .rgData, none => startStreamIn s { x with image := [] } .image 16
  | .rgData, some .ok => s.goOn (x.goto .rgTrailer)
  | .rgTrailer, none => startStreamIn s x .scratch 2
  | .rgTrailer, some .ok => s.goOn (x.goto .rgStore)
  | .rgStore, none => store s x (registerImage reverse x.image)
  | .leaving res, some .ok => deliver s x res
  | _, _ => .refused .outOfPhase

/-- The register's bytes are written to the caller's buffer, and the operation ends with Ok (R370, R371). -/
def storeRegister (buf : Nat) (s : State) (x : Ctx) (bs : List Byte) : Outcome :=
  match s.writeBuffer buf bs with
  | none => .refused .bufferOwned
  | some s' => endWith s' x .ok

/-- The result of a register read goes to the client (R421). -/
def deliverRegister (s : State) (_x : Ctx) (res : Res) : Outcome := .next (s.complete (.seq res))

/-- `sd_read_cid` (R370). -/
def execSdReadCid (dev buf : Nat) (s : State) : Outcome :=
  operation (opening dev .beginOp (some (buf, 16)))
    (registerProgram dev false (storeRegister buf) deliverRegister) s

/-- `sd_read_csd` (R371). -/
def execSdReadCsd (dev buf : Nat) (s : State) : Outcome :=
  operation (opening dev .beginOp (some (buf, 16)))
    (registerProgram dev true (storeRegister buf) deliverRegister) s

/-! ### CID decode (R375, R376) -/

/-- The fields of a CID. -/
structure Cid where
  mid : Byte
  oid : List Byte
  pnm : List Byte
  prv : Byte
  psn : BitVec 32
  mdtYear : Nat
  mdtMonth : Nat
  crc : BitVec 7
  deriving DecidableEq, Repr

/-- Byte `i` of a register buffer. -/
def regByte (buf : List Byte) (i : Nat) : Byte := (buf[i]?).getD 0#8

/-- `MDT`, 12 bits (R375). -/
def cidMdt (buf : List Byte) : BitVec 12 := (regByte buf 13).extractLsb' 0 4 ++ regByte buf 14

/-- `cid_decode(buf)` (R376): never fails and checks nothing. -/
def cidDecode (buf : List Byte) : Cid where
  mid := regByte buf 0
  oid := [regByte buf 1, regByte buf 2]
  pnm := [regByte buf 3, regByte buf 4, regByte buf 5, regByte buf 6, regByte buf 7]
  prv := regByte buf 8
  psn := be32 (regByte buf 9) (regByte buf 10) (regByte buf 11) (regByte buf 12)
  mdtYear := ((cidMdt buf).extractLsb' 4 8).toNat + 2000
  mdtMonth := ((cidMdt buf).extractLsb' 0 4).toNat
  crc := (regByte buf 15).extractLsb' 1 7

/-! ### CSD decode (R380 to R382) -/

/-- `CSD = sum over i of buf[i] << 8i`, of the un-reversed buffer (R380). -/
def csdOf (buf : List Byte) : BitVec 128 := BitVec.ofNat 128 (ofBytesLE (buf.take 16))

/-- A field `[hi:lo]` of a CSD. -/
def csdField (csd : BitVec 128) (hi lo : Nat) : Nat := (csd.extractLsb' lo (hi + 1 - lo)).toNat

/-- `CSD_STRUCTURE` (R380). -/
def csdVersion (csd : BitVec 128) : Nat := csdField csd 127 126

/-- The fields that both layouts have at the same place (R381, R382). -/
structure CsdCommon where
  csdStructure : Nat
  taac : Nat
  nsac : Nat
  tranSpeed : Nat
  ccc : Nat
  readBlLen : Nat
  readBlPartial : Nat
  writeBlkMisalign : Nat
  readBlkMisalign : Nat
  dsrImp : Nat
  eraseBlkEn : Nat
  sectorSizeField : Nat
  wpGrpSize : Nat
  wpGrpEnable : Nat
  r2wFactor : Nat
  writeBlLen : Nat
  writeBlPartial : Nat
  fileFormatGrp : Nat
  copy : Nat
  permWriteProtect : Nat
  tmpWriteProtect : Nat
  fileFormat : Nat
  crc : Nat
  deriving DecidableEq, Repr

/-- The common fields (R381). -/
def csdCommon (csd : BitVec 128) : CsdCommon where
  csdStructure := csdField csd 127 126
  taac := csdField csd 119 112
  nsac := csdField csd 111 104
  tranSpeed := csdField csd 103 96
  ccc := csdField csd 95 84
  readBlLen := csdField csd 83 80
  readBlPartial := csdField csd 79 79
  writeBlkMisalign := csdField csd 78 78
  readBlkMisalign := csdField csd 77 77
  dsrImp := csdField csd 76 76
  eraseBlkEn := csdField csd 46 46
  sectorSizeField := csdField csd 45 39
  wpGrpSize := csdField csd 38 32
  wpGrpEnable := csdField csd 31 31
  r2wFactor := csdField csd 28 26
  writeBlLen := csdField csd 25 22
  writeBlPartial := csdField csd 21 21
  fileFormatGrp := csdField csd 15 15
  copy := csdField csd 14 14
  permWriteProtect := csdField csd 13 13
  tmpWriteProtect := csdField csd 12 12
  fileFormat := csdField csd 11 10
  crc := csdField csd 7 1

/-- The fields only the V1 layout has, or has with its own width (R381). -/
structure CsdV1 where
  common : CsdCommon
  cSize : Nat
  vddRCurrMin : Nat
  vddRCurrMax : Nat
  vddWCurrMin : Nat
  vddWCurrMax : Nat
  cSizeMult : Nat
  deriving DecidableEq, Repr

/-- The fields of a V2 CSD (R382). -/
structure CsdV2 where
  common : CsdCommon
  cSize : Nat
  deriving DecidableEq, Repr

/-- The decode of a CSD: the version selects the layout (R380). -/
inductive Csd
  | v1 (fields : CsdV1)
  | v2 (fields : CsdV2)
  /-- A version outside 0 and 1 has no layout. -/
  | other (version : Nat)
  deriving DecidableEq, Repr

/-- The V1 layout (R381). -/
def csdV1 (csd : BitVec 128) : CsdV1 where
  common := csdCommon csd
  cSize := csdField csd 73 62
  vddRCurrMin := csdField csd 61 59
  vddRCurrMax := csdField csd 58 56
  vddWCurrMin := csdField csd 55 53
  vddWCurrMax := csdField csd 52 50
  cSizeMult := csdField csd 49 47

/-- The V2 layout (R382). -/
def csdV2 (csd : BitVec 128) : CsdV2 where
  common := csdCommon csd
  cSize := csdField csd 69 48

/-- The CSD's fields by its version (R380). -/
def csdDecode (buf : List Byte) : Csd :=
  let csd := csdOf buf
  match csdVersion csd with
  | 0 => .v1 (csdV1 csd)
  | 1 => .v2 (csdV2 csd)
  | v => .other v

/-! ### Capacity (R383, R384) -/

/-- The capacity in 512-byte blocks; none where the formulas give no 32-bit value and the result is a draw. -/
def csdCapacity (buf : List Byte) : Option (BitVec 32) :=
  match csdDecode buf with
  | .v1 f =>
    if f.common.readBlLen < 9 then none
    else some (BitVec.ofNat 32
      (((f.cSize + 1) <<< (f.cSizeMult + 2)) <<< (f.common.readBlLen - 9)))
  | .v2 f =>
    if (f.cSize + 1) * 1024 ≥ 2 ^ Config.blockCountBits then none
    else some (BitVec.ofNat 32 ((f.cSize + 1) * 1024))
  | .other _ => some 0#32

end Sys2Proof.Machine
end

