-- ==== Sys2Proof/Machine/BlockDevice.lean ====
section
/-! DEFINITION. The upward block-device interface (spec/45_block_device.md): a thin mapping onto the sequencer
operations. Unit `u` is device `u`, and any other unit is invalid (R407). -/

namespace Sys2Proof.Machine

open Sys2Proof

/-- `valid(u)` (R407). -/
def State.validUnit (s : State) (u : Nat) : Bool := decide (u < s.devices.length)

/-- The answer of a block-device operation that does not touch the bus. Before `bus_init` it is refused, as every
call is (R200, R452, R465); the list of R425 and the pseudocode of R400 to R407 do not name that refusal, and
log entry 26 says that it is the model's choice. -/
def answer (s : State) (r : Result) : Outcome :=
  if s.lock.ready then .next (s.complete r) else .refused .noLock

/-- `status(unit)` (R400): ready when the unit is valid and its session is READY. Before `bus_init` it is refused
(log entry 26). -/
def execStatus (unit : Nat) (s : State) : Outcome :=
  match s.devices[unit]? with
  | some d => answer s (if d.session.stateField = .ready then .ready else .notReady)
  | none => answer s .notReady

/-- `initialize(unit)` (R401). -/
def execUpInitialize (unit : Nat) (s : State) : Outcome :=
  if s.validUnit unit then initOperation unit Result.ofInit s else answer s .notReady

/-- `read(unit, first_block, count, buffer)` (R402). -/
def execUpRead (unit first count buf : Nat) (s : State) : Outcome :=
  if s.validUnit unit then readOperation unit first count buf Result.ofIo s else answer s .upIoError

/-- `write(unit, first_block, count, buffer)` (R403). -/
def execUpWrite (unit first count buf : Nat) (s : State) : Outcome :=
  if s.validUnit unit then writeOperation unit first count buf Result.ofIo s else answer s .upIoError

/-- The CSD goes into the operation's local buffer (R404). -/
def keepRegister (s : State) (x : Ctx) (_bs : List Byte) : Outcome := endWith s x .ok

/-- The number `block_count` delivers: the capacity of the CSD just read, a draw where the formulas give no
value, and 0 on failure (R384, R404). -/
def deliverCapacity (s : State) (x : Ctx) (res : Res) : Outcome :=
  match res with
  | .ok =>
    (match csdCapacity (registerImage true x.image) with
      | some n => .next (s.complete (.number n))
      | none => .next (s.drawCapacity.2.complete (.number s.drawCapacity.1)))
  | _ => .next (s.complete (.number 0#32))

/-- `block_count(unit)` (R404). -/
def execBlockCount (unit : Nat) (s : State) : Outcome :=
  if s.validUnit unit then
    operation (opening unit .beginOp none) (registerProgram unit true keepRegister deliverCapacity) s
  else answer s (.number 0#32)

/-- `sector_size(unit)` (R405). Before `bus_init` it is refused (log entry 26). -/
def execSectorSize (_unit : Nat) (s : State) : Outcome := answer s (.number 512#32)

/-- `erase_granularity(unit)` (R406). Before `bus_init` it is refused (log entry 26). -/
def execEraseGranularity (_unit : Nat) (s : State) : Outcome := answer s (.number 1#32)

end Sys2Proof.Machine
end

