-- ==== Sys2Proof/Machine/Dispatch.lean ====
section
/-! DEFINITION. One arm per row of spec/opcode_table.json: the call of its meaning. -/

namespace Sys2Proof.Machine

open Sys2Proof

def exec (i : Instr) (s : State) : Host.Outcome State Fault Refusal :=
  match i with
  -- engine operations (spec/40_engine.md)
  | .busInit => Sys2Proof.Machine.execBusInit s
  | .acquire dev => Sys2Proof.Machine.execAcquire dev s
  | .release => Sys2Proof.Machine.execRelease s
  | .setClock word => Sys2Proof.Machine.execSetClock word s
  | .csAssert => Sys2Proof.Machine.execCsAssert s
  | .csDeassert => Sys2Proof.Machine.execCsDeassert s
  | .reset => Sys2Proof.Machine.execReset s
  | .setCommand len value => Sys2Proof.Machine.execSetCommand len value s
  | .setAddress len value => Sys2Proof.Machine.execSetAddress len value s
  | .setOutput len bytes => Sys2Proof.Machine.execSetOutput len bytes s
  | .setOutputPattern len word => Sys2Proof.Machine.execSetOutputPattern len word s
  | .configureExec bigEndianOut dummyCycles recvBits bigEndianIn => Sys2Proof.Machine.execConfigureExec bigEndianOut dummyCycles recvBits bigEndianIn s
  | .execute => Sys2Proof.Machine.execExecute s
  | .wait => Sys2Proof.Machine.execWait s
  | .readResult buf => Sys2Proof.Machine.execReadResult buf s
  -- driver operations (spec/42_sd_init.md, 43_block_io.md, 44_registers.md)
  | .sdInitialize dev => Sys2Proof.Machine.execSdInitialize dev s
  | .sdRead dev first count buf => Sys2Proof.Machine.execSdRead dev first count buf s
  | .sdWrite dev first count buf => Sys2Proof.Machine.execSdWrite dev first count buf s
  | .sdErase dev first last => Sys2Proof.Machine.execSdErase dev first last s
  | .sdReadCid dev buf => Sys2Proof.Machine.execSdReadCid dev buf s
  | .sdReadCsd dev buf => Sys2Proof.Machine.execSdReadCsd dev buf s
  -- block-device operations (spec/45_block_device.md)
  | .status unit => Sys2Proof.Machine.execStatus unit s
  | .upInitialize unit => Sys2Proof.Machine.execUpInitialize unit s
  | .upRead unit firstBlock count buf => Sys2Proof.Machine.execUpRead unit firstBlock count buf s
  | .upWrite unit firstBlock count buf => Sys2Proof.Machine.execUpWrite unit firstBlock count buf s
  | .blockCount unit => Sys2Proof.Machine.execBlockCount unit s
  | .sectorSize unit => Sys2Proof.Machine.execSectorSize unit s
  | .eraseGranularity unit => Sys2Proof.Machine.execEraseGranularity unit s
  -- SD command frames (spec/30_encoding.md R131)
  | .cmd0GoIdleState => Sys2Proof.Machine.execCmd0GoIdleState s
  | .cmd1SendOpCond => Sys2Proof.Machine.execCmd1SendOpCond s
  | .cmd8SendIfCond => Sys2Proof.Machine.execCmd8SendIfCond s
  | .cmd9SendCsd => Sys2Proof.Machine.execCmd9SendCsd s
  | .cmd10SendCid => Sys2Proof.Machine.execCmd10SendCid s
  | .cmd12StopTransmission => Sys2Proof.Machine.execCmd12StopTransmission s
  | .cmd16SetBlocklen => Sys2Proof.Machine.execCmd16SetBlocklen s
  | .cmd17ReadSingleBlock a => Sys2Proof.Machine.execCmd17ReadSingleBlock a s
  | .cmd18ReadMultipleBlock a => Sys2Proof.Machine.execCmd18ReadMultipleBlock a s
  | .cmd24WriteBlock a => Sys2Proof.Machine.execCmd24WriteBlock a s
  | .cmd25WriteMultipleBlock a => Sys2Proof.Machine.execCmd25WriteMultipleBlock a s
  | .cmd32EraseWrBlkStart a => Sys2Proof.Machine.execCmd32EraseWrBlkStart a s
  | .cmd33EraseWrBlkEnd a => Sys2Proof.Machine.execCmd33EraseWrBlkEnd a s
  | .cmd38Erase => Sys2Proof.Machine.execCmd38Erase s
  | .cmd55AppCmd => Sys2Proof.Machine.execCmd55AppCmd s
  | .cmd58ReadOcr => Sys2Proof.Machine.execCmd58ReadOcr s
  | .acmd23SetWrBlkEraseCount a => Sys2Proof.Machine.execAcmd23SetWrBlkEraseCount a s
  | .acmd41SdV2Hcs => Sys2Proof.Machine.execAcmd41SdV2Hcs s
  | .acmd41SdV1 => Sys2Proof.Machine.execAcmd41SdV1 s
  -- responses (R127 to R129)
  | .r1Status st => Sys2Proof.Machine.execR1Status st s
  | .r3StatusOcr st o => Sys2Proof.Machine.execR3StatusOcr st o s
  | .r7StatusEcho st x e => Sys2Proof.Machine.execR7StatusEcho st x e s
  -- tokens (R134, R136)
  | .fillerNotBusy => Sys2Proof.Machine.execFillerNotBusy s
  | .dataStartToken => Sys2Proof.Machine.execDataStartToken s
  | .multiBlockWriteStartToken => Sys2Proof.Machine.execMultiBlockWriteStartToken s
  | .multiBlockStopToken => Sys2Proof.Machine.execMultiBlockStopToken s
  | .dataResponseAccepted x => Sys2Proof.Machine.execDataResponseAccepted x s
  | .dataResponseRejected x n => Sys2Proof.Machine.execDataResponseRejected x n s

end Sys2Proof.Machine
end

