-- ==== Sys2Proof/Machine/Pseudo.lean ====
section
/-! DEFINITION. The pseudo-operations of R161, run by a client that owns the bus. A pseudo-operation has no encoding;
each is the primitive of spec/41_sequencer.md that the sequencer's programs use, and what the primitive ends with is
the client's result (log entry 17). -/

namespace Sys2Proof.Machine

open Sys2Proof

/-- One step of a pseudo-operation: the first needs an owned, idle bus, and a later one goes on in its context. As in
`commandRow`, the check of R51 is not made (log entry 17). -/
def pseudo (start : Outcome) (prog : Program) (s : State) : Outcome :=
  match s.ctx with
  | none => requireIdleBus s start
  | some x => if x.pc = .pseudo then runProgram prog s x else .refused .outOfPhase

/-- A pseudo-operation that is one group of engine operations (R251, R252). -/
def pseudoGroup (ops : List EngineOp) (result : Ctx → Result) (s : State) : Outcome :=
  let prog : Program := fun s x r =>
    match r with
    | some .ok => .next (s.complete (result x))
    | _ => .refused .outOfPhase
  pseudo (runProgram prog s ((Ctx.start .pseudo none).engine .pseudo ops)) prog s

/-- `xfer_in n` (R251): `n` in 1..64, and the client is given the bytes. -/
def pseudoXferIn (n : Nat) (s : State) : Outcome :=
  if 1 ≤ n ∧ n ≤ Config.chunk then pseudoGroup (xferIn n) (fun x => .bytes x.tmp) s else .refused .range

/-- `xfer_out [bytes]` (R252): 1 to 64 bytes. -/
def pseudoXferOut (bytes : List Byte) (s : State) : Outcome :=
  if 1 ≤ bytes.length ∧ bytes.length ≤ Config.chunk then pseudoGroup (xferOut bytes) (fun _ => .done) s
  else .refused .range

/-- `wait_not_busy T` (R253): Ok or Timeout. -/
def pseudoWaitNotBusy (limit : Nat) (s : State) : Outcome :=
  pseudo (startPollBusy s (Ctx.start .pseudo none) false limit) pseudoProgram s

/-- `send_cmd idx, arg, kind` (R260): `idx` in 0..63, and the client is given `(r1, ext)` or Timeout. -/
def pseudoSendCmd (idx : Nat) (arg : BitVec 32) (kind : RespKind) (s : State) : Outcome :=
  if idx < 64 then commandRow ⟨BitVec.ofNat 6 idx, arg, kind⟩ s else .refused .range

/-- `acmd idx, arg, kind` (R266): `(r1, ext)`, Timeout, or IOError where CMD55 failed. -/
def pseudoSendAcmd (idx : Nat) (arg : BitVec 32) (kind : RespKind) (s : State) : Outcome :=
  if idx < 64 then acmdRow ⟨BitVec.ofNat 6 idx, arg, kind⟩ s else .refused .range

/-- `wait_token T` (R270): Ok, Timeout or IOError. -/
def pseudoWaitToken (limit : Nat) (s : State) : Outcome :=
  pseudo (startPollToken s (Ctx.start .pseudo none) limit) pseudoProgram s

/-- One step of a client whose request is a pseudo-operation. -/
def execPseudo (op : PseudoOp) (s : State) : Outcome :=
  match op with
  | .xferIn n => pseudoXferIn n s
  | .xferOut bytes => pseudoXferOut bytes s
  | .waitNotBusy limit => pseudoWaitNotBusy limit s
  | .sendCmd idx arg kind => pseudoSendCmd idx arg kind s
  | .acmd idx arg kind => pseudoSendAcmd idx arg kind s
  | .waitToken limit => pseudoWaitToken limit s

end Sys2Proof.Machine
end

