-- ==== Sys2Proof/Machine/Shifter.lean ====
section
/-! DEFINITION. The shifter, the agent that performs a started transaction (spec/40_engine.md R220 to R223). -/

namespace Sys2Proof.Machine

open Sys2Proof

/-- The MOSI bits a device has been sent grow by one, if a device is selected with chip-select asserted
(R33, R467). -/
def State.sendBit (s : State) (b : Bool) : State :=
  match s.latch.dev with
  | some d =>
    if s.lines.cs = some .asserted then s.changeDevice d fun dv => { dv with wire := dv.wire ++ [b] } else s
  | none => s

/-- What the block drives on MOSI at clock event number `pos`: the event's bit, or nothing where MOSI and
MISO are one shared line and the event is in the dummy or input phase (R86). -/
def drivenBit (shared : Option Bool) (p : Snap) (b : Bool) : Option Bool :=
  if shared = some true ∧ p.driven ≤ p.pos then none else some b

/-- Hardware-timed chip-select is asserted before the first event (R221). -/
def State.csBefore (s : State) (p : Snap) : State :=
  if p.csMode = .hardware ∧ p.pos = 0 then s.withCs .asserted else s

/-- Hardware-timed chip-select is deasserted after the last event; a transaction with no event leaves the
line unchanged (R221). -/
def State.csAfter (s : State) (p : Snap) : State :=
  if p.csMode = .hardware ∧ p.mosi ≠ [] then s.withCs .deasserted else s

/-- The snapshot after one event whose MISO sample is `m`: only the input phase's samples are kept (R81). -/
def Snap.sampled (p : Snap) (m : Bool) : Snap :=
  { p with
    pos := p.pos + 1
    samples := if p.mosi.length - p.inLen ≤ p.pos then p.samples ++ [m] else p.samples }

/-- One clock event: one MOSI bit sent and one MISO bit sampled (R80). -/
def clockEvent (s : State) (p : Snap) : State :=
  let b := (p.mosi[p.pos]?).getD true
  let s := (s.csBefore p).sendBit b
  let s := s.withLines { s.lines with mosi := drivenBit s.latch.sharedIo p b, sclk := s.lines.sclk + 1 }
  s.drawBit.2.withSnap (some (p.sampled s.drawBit.1))

/-- The end of a transaction: the samples are packed into IN_BUF, BUSY is cleared, and SNAP is gone, in one
step (R85, R220, R222). -/
def finishTransfer (s : State) (p : Snap) : State :=
  let stream := inStream p.bitOrder p.samples p.inLen s.env.draws
  let s := (s.withEnv { s.env with draws := s.env.draws + padCount p.inLen }).csAfter p
  (s.withSnap none).withEngine
    { s.engine with inBuf := storeStream p.inBe 0 stream s.engine.inBuf, busy := false }

/-- One step of the shifter (R220, R491): one clock event, and after the last one the end of the
transaction; a transaction with no event ends at once. Without a transaction the shifter has no step. -/
def shifterStep (s : State) : State :=
  match s.snap with
  | none => s
  | some p =>
    if p.mosi.length ≤ p.pos then finishTransfer s p
    else
      let s' := clockEvent s p
      match s'.snap with
      | some p' => if p'.mosi.length ≤ p'.pos then finishTransfer s' p' else s'
      | none => s'

end Sys2Proof.Machine
end

