-- ==== Sys2Proof/Machine/Step.lean ====
section
/-! DEFINITION. One step of the machine: one step of one agent (spec/10_state.md R31), and how an
instruction is laid out where the next step fetches it. -/

namespace Sys2Proof.Machine

open Sys2Proof

/-- What a client is running or would run next; none where there is no such client or it asks for nothing. -/
def State.pendingCall (s : State) (c : Nat) : Option Request :=
  match s.clients[c]? with
  | some cl => cl.calls.head?
  | none => none

/-- One step of client `c`: what it asks for is run, an instruction after its bytes are decoded. A client that
asks for nothing has no step of its own, and nothing happens. -/
def clientStep (c : Nat) (s : State) : Outcome :=
  match s.pendingCall c with
  | none => .next s
  | some (.encoded call) =>
    (match decodeCall call with
      | .error e => .refused (.illegalEncoding e)
      | .ok i => exec i (s.withCur c))
  | some (.pseudo op) => execPseudo op (s.withCur c)

/-- One step of the machine: the agent whose turn it is takes one step of its own (R31, R34). -/
def step (s : State) : Host.Outcome State Fault Refusal :=
  match s.nextAgent with
  | (.client c, s') => clientStep c s'
  | (.shifter, s') => .next (shifterStep s')

/-- The client asks for this before anything else, with no operation of its own under way. -/
def Client.calling (cl : Client) (r : Request) : Client :=
  { cl with calls := r :: cl.calls, ctx := none }

/-- The clients with this call placed at client 0. -/
def placeCall (call : Call) : List Client → List Client
  | [] => [Client.reset.calling (.encoded call)]
  | cl :: rest => cl.calling (.encoded call) :: rest

/-- The call is where the next step fetches: it stands first at client 0, and it is client 0's turn. -/
def State.withCall (s : State) (call : Call) : State :=
  (s.withClients (placeCall call s.clients)).withEnv { s.env with sched := .client 0 :: s.env.sched }

/-- The opcode table's word `w` is where the next step fetches. -/
def State.withFetchWord (s : State) (nbits w : Nat) : State := s.withCall (tableCall nbits w)

end Sys2Proof.Machine
end

