-- ==== Sys2Proof/Safety.lean ====
section
/-! DEFINITION. What claims about the block are stated in terms of: the launch premises (spec R466), the end and
the observation of a run (R467), the stuck client (R427), the legal values of the registers (R40 to R47, R63),
the invariant of the machine, and who holds the bus (R97, R450). -/

namespace Sys2Proof.Machine

open Sys2Proof

/-! ### Launch premises (R466) -/

/-- `lock_created`. -/
def State.lockCreated (s : State) : Prop := s.lock.ready = true

/-- `bus_idle`, as R466 defines it. `State.reset` meets it, since R62 gives it no owner, no waiter, BUSY = 0 and no
context, while the last sentence of R466 says that a launch from power-on does not satisfy it until `bus_init`
has run: that the definition is followed is the model's choice (log entry 27). -/
def State.busIdle (s : State) : Prop :=
  s.lock.owner = none ∧ s.lock.waiters = [] ∧ s.engine.busy = false ∧ ∀ cl ∈ s.clients, cl.ctx = none

/-- `devices_sd`: every device used is one a sequencer operation accepts (R51). `State.reset` meets it for its two
devices, since their descriptors are filled in there, while the last sentence of R466 says that a launch from
power-on does not satisfy it until descriptor set-up has run: that the set-up is done before reset is the model's
choice (log entry 6). -/
def State.devicesSd (s : State) (used : List Nat) : Prop :=
  ∀ d ∈ used, ∃ dv, s.devices[d]? = some dv ∧ dv.sdUsable = true

/-! ### The end of a run and what is observed of it (R467) -/

/-- Every client has returned from its last operation, the bus is free, nobody waits, and BUSY = 0. -/
def State.runOver (s : State) : Prop :=
  (∀ cl ∈ s.clients, cl.calls = []) ∧ s.lock.owner = none ∧ s.lock.waiters = [] ∧ s.engine.busy = false

/-- What a run shows: the results each client got, the caller's memory, each device's flag and session, and
the MOSI bits sent to it. -/
structure Observation where
  results : List (List Result)
  memory : List Host.Cell
  flags : List Bool
  sessions : List Session
  wires : List (List Bool)
  deriving DecidableEq, Repr

/-- The observation of a state. -/
def State.observe (s : State) : Observation where
  results := s.clients.map Client.results
  memory := s.mem
  flags := s.devices.map Device.hc
  sessions := s.devices.map Device.session
  wires := s.devices.map Device.wire

/-! ### Runs of one agent and of one program of engine operations -/

/-- `n` steps of the shifter and of nobody else. -/
def shifterRun : Nat → State → State
  | 0, s => s
  | n + 1, s => shifterRun n (shifterStep s)

/-- A client does these engine operations one after the other; none where one of them does not complete. -/
def runOps (c : Nat) : List EngineOp → State → Option State
  | [], s => some s
  | op :: ops, s =>
    match engineOp c op s with
    | .done s' _ => runOps c ops s'
    | _ => none

/-- `n` steps of the client whose turn it is, all of them of the call `i`; none where one of them has no next state. -/
def execRun : Nat → Instr → State → Option State
  | 0, _, s => some s
  | n + 1, i, s =>
    match exec i s with
    | .next t => execRun n i t
    | _ => none

/-- The bits of a sequence of bytes in the order of the wire, most significant bit first. -/
def wireBits (bs : List Byte) : List Bool := bs.flatMap fun b => byteBits b .msbFirst

/-! ### The client that the current step belongs to -/

/-- The client that takes the step has no sequencer operation under way. -/
def State.noCtx (s : State) : Prop := s.ctx = none

/-- The client that takes the step owns the bus and no transaction is in flight: what R205 asks of an engine
operation other than wait and read_result. -/
def State.ready (s : State) : Prop := s.owns s.cur = true ∧ s.engine.busy = false

/-- The client that takes the step is at a place where its program gets control: no engine operation is
left to do, and the phase is this one. -/
def State.awaits (s : State) (x : Ctx) (ph : Phase) : Prop :=
  s.ctx = some x ∧ x.micro = [] ∧ x.phase = ph

/-- ... and its program stands at step `pc`. -/
def State.stands (s : State) (x : Ctx) (pc : SeqPc) (ph : Phase) : Prop := s.awaits x ph ∧ x.pc = pc

/-- The state in which a deadline wait of `limit` has begun in this phase: TIME has been read into `t0`, and the
first byte is asked for (R253, R270). -/
def State.polling (s : State) (x : Ctx) (ph : Phase) (limit : Nat) : State :=
  s.now.2.withCtx
    { x with phase := ph, micro := xferIn 1, pollT0 := some s.now.1, limit := some limit }

/-- The context from which an operation leaves by `end_op` with this result (R275). -/
def Ctx.exits (x : Ctx) (r : Res) : Ctx :=
  { x with pc := .leaving r, phase := .group, micro := [.csDeassert, .release] }

/-- One step of the client whose turn it is leads from `s` to `t`: a step of an instruction, or of a pseudo-operation
(R161). -/
def clientLeads (s t : State) : Prop := (∃ i, exec i s = .next t) ∨ ∃ op, execPseudo op s = .next t

/-- The operations that run the program of R290 on device `d`. -/
def initialization (i : Instr) (d : Nat) : Prop := i = .sdInitialize d ∨ i = .upInitialize d

/-- The operations that run the program of R330. -/
def readsBlocks (i : Instr) (d first count buf : Nat) : Prop :=
  i = .sdRead d first count buf ∨ i = .upRead d first count buf

/-- The operations that run the program of R338. -/
def writesBlocks (i : Instr) (d first count buf : Nat) : Prop :=
  i = .sdWrite d first count buf ∨ i = .upWrite d first count buf

/-- The operations that run the program of R370 and R371; block_count has no buffer (R404). -/
def registerRead (i : Instr) (d buf : Nat) : Prop :=
  i = .sdReadCid d buf ∨ i = .sdReadCsd d buf ∨ i = .blockCount d

/-- The operations that write a device's flag and session (R52, R55). -/
def initializes : Instr → Bool
  | .sdInitialize _ | .upInitialize _ => true
  | _ => false

/-- The operations that write caller memory (R17, R84). -/
def stores : Instr → Bool
  | .readResult _ | .sdRead _ _ _ _ | .sdReadCid _ _ | .sdReadCsd _ _ | .upRead _ _ _ _ => true
  | _ => false

/-- The engine operations that only the owner of the bus may do (R205). -/
def ownerOnly : Instr → Bool
  | .release | .setClock _ | .csAssert | .csDeassert | .reset | .setCommand _ _ | .setAddress _ _
  | .setOutput _ _ | .setOutputPattern _ _ | .configureExec _ _ _ _ | .execute | .wait
  | .readResult _ => true
  | _ => false

/-- The engine operations that are allowed while a transaction is in flight (R205). -/
def waits : Instr → Bool
  | .wait | .readResult _ => true
  | _ => false

/-- The device a sequencer operation works on and the context it starts in; none for every other
instruction, and for a count of 0, which is refused (R330, R338). -/
def sequencerStart : Instr → Option (Nat × Ctx)
  | .sdInitialize d | .upInitialize d => some (d, opening d .i0Acquire none)
  | .sdRead d _ count buf | .upRead d _ count buf | .sdWrite d _ count buf | .upWrite d _ count buf =>
    if count = 0 then none else some (d, opening d .beginOp (some (buf, 512 * count)))
  | .sdErase d _ _ => some (d, opening d .beginOp none)
  | .sdReadCid d buf | .sdReadCsd d buf => some (d, opening d .beginOp (some (buf, 16)))
  | .blockCount d => some (d, opening d .beginOp none)
  | _ => none

/-- What a sequencer operation delivers for its result (R401 to R403, R421); `block_count`, whose value
depends on what was read, has no entry here. -/
def delivered : Instr → Option (Res → Result)
  | .sdInitialize _ | .sdRead _ _ _ _ | .sdWrite _ _ _ _ | .sdErase _ _ _ | .sdReadCid _ _
  | .sdReadCsd _ _ => some Result.seq
  | .upInitialize _ => some Result.ofInit
  | .upRead _ _ _ _ | .upWrite _ _ _ _ => some Result.ofIo
  | _ => none

/-- The steps of a sequencer operation that send a command whose status must be 0x00 (R265, R331, R334,
R339, R345, R346, R355, R370, R371). -/
def commandSteps : Instr → List SeqPc
  | .sdRead _ _ _ _ | .upRead _ _ _ _ => [.rdCommand, .rdStop]
  | .sdWrite _ _ _ _ | .upWrite _ _ _ _ => [.wrCommand, .mwEraseCount, .mwCommand]
  | .sdErase _ _ _ => [.erStart, .erEnd, .erErase]
  | .sdReadCid _ _ | .sdReadCsd _ _ | .blockCount _ => [.rgCommand]
  | _ => []

/-- The steps that send a block number as a command's argument, the number, and the command (R331, R339, R346,
R355). -/
def addressed : Instr → SeqPc → Option (Nat × (BitVec 32 → Instr))
  | .sdRead _ first count _, .rdCommand | .upRead _ first count _, .rdCommand =>
    some (first, if count = 1 then .cmd17ReadSingleBlock else .cmd18ReadMultipleBlock)
  | .sdWrite _ first _ _, .wrCommand | .upWrite _ first _ _, .wrCommand => some (first, .cmd24WriteBlock)
  | .sdWrite _ first _ _, .mwCommand | .upWrite _ first _ _, .mwCommand => some (first, .cmd25WriteMultipleBlock)
  | .sdErase _ first _, .erStart => some (first, .cmd32EraseWrBlkStart)
  | .sdErase _ _ last, .erEnd => some (last, .cmd33EraseWrBlkEnd)
  | _, _ => none

/-- The operands of a pseudo-operation are in their ranges (R251, R252, R260). -/
def PseudoOp.inRange : PseudoOp → Bool
  | .xferIn n => decide (1 ≤ n) && decide (n ≤ 64)
  | .xferOut bytes => decide (1 ≤ bytes.length) && decide (bytes.length ≤ 64)
  | .sendCmd idx _ _ | .acmd idx _ _ => decide (idx < 64)
  | .waitNotBusy _ | .waitToken _ => true

/-- The pseudo-operation that sends CMD55 before its command (R266). -/
def PseudoOp.isAcmd : PseudoOp → Bool
  | .acmd _ _ _ => true
  | _ => false

/-- The token a token row stands for, of the three that are also sent (R134). -/
def sentToken : Instr → Option Byte
  | .dataStartToken => some 0xFE
  | .multiBlockWriteStartToken => some 0xFC
  | .multiBlockStopToken => some 0xFD
  | _ => none

/-! ### Polynomials over two elements (R126) -/

/-- The list with the bits of `g` added, place by place, to its front. -/
def addFront : List Bool → List Bool → List Bool
  | g :: gs, b :: bs => (g ^^ b) :: addFront gs bs
  | _, bs => bs

/-- Long division by `x^7 + x^3 + 1`: `n` times the leading coefficient is taken off, and where it is 1 the
rest of the generator, `0001001`, is added to what follows it. What is left is the remainder. -/
def divide : Nat → List Bool → List Bool
  | 0, bits => bits
  | _ + 1, [] => []
  | n + 1, b :: bits =>
    divide n (if b then addFront [false, false, false, true, false, false, true] bits else bits)

/-! ### The stuck client (R427) -/

/-- A client that owns the bus, with no transaction in flight, has called `acquire` again. -/
def State.nestedAcquire (s : State) (c dev : Nat) : Prop :=
  s.lock.ready = true ∧ s.lock.owner = some c ∧ s.engine.busy = false ∧ dev < s.devices.length ∧
    ∃ cl, s.clients[c]? = some cl ∧ cl.ctx = none ∧
      cl.calls.head? = some (.encoded (callOf (.acquire dev)))

/-! ### Legal values -/

/-- The engine registers hold legal values (R40 to R45): a field whose enable is 1 has a length in its range
and a value, and the buffers have 64 bytes. -/
structure Engine.Legal (e : Engine) : Prop where
  outSize : e.outBuf.length = 64
  inSize : e.inBuf.length = 64
  command : e.cmdEn = some true →
    ∃ n v, e.cmdLen = some n ∧ e.cmdVal = some v ∧ 1 ≤ n ∧ n ≤ 16 ∧ v.toNat < 2 ^ n
  address : e.addrEn = some true →
    ∃ n v, e.addrLen = some n ∧ e.addrVal = some v ∧ 1 ≤ n ∧ n ≤ 32 ∧ v.toNat < 2 ^ n
  output : e.outEn = some true →
    ∃ n, e.outLen = some n ∧ 1 ≤ n ∧ n ≤ 512 ∧ ∀ j, j < ceil8 n → ∃ b, e.outBuf[j]? = some (some b)
  dummy : ∀ n, e.dummyLen = some n → n ≤ 256
  input : ∀ n, e.inLen = some n → n ≤ 512

/-- A snapshot in flight is legal (R63, R80, R81, R85): the shifter has not passed its last event, it is no
longer than the longest transaction (R223), MOSI is held at 1 in the dummy and input phases, and one sample
is kept for each event of the input phase so far. -/
structure Snap.Legal (p : Snap) : Prop where
  inside : p.pos < p.mosi.length ∨ p.mosi = []
  length : p.mosi.length ≤ 1328
  input : p.inLen ≤ 512
  phases : p.driven + p.inLen ≤ p.mosi.length
  held : ∀ k, p.driven ≤ k → k < p.mosi.length → p.mosi[k]? = some true
  kept : p.samples.length = p.pos - (p.mosi.length - p.inLen)
  groups : p.inBe = true → p.inLen % 32 = 0

/-- The latch and the lines are those of the device the bus was last acquired for (R48, R49, R446). -/
def State.latchedFor (s : State) (d : Nat) : Prop :=
  ∃ dv, s.devices[d]? = some dv ∧ s.latch.mode = some dv.mode ∧ s.latch.bitOrder = some dv.bitOrder ∧
    s.latch.csMode = some dv.csMode ∧ s.latch.sharedIo = some dv.sharedIo ∧
    s.lines.demux = some (s.selector dv) ∧ s.latch.clock.isSome = true ∧ s.lines.cs.isSome = true

/-! ### The invariant of the machine -/

/-- What every state of the machine satisfies. -/
structure Inv (s : State) : Prop where
  /-- Caller memory is in its canonical form. -/
  memory : Memory.wf s.mem = true
  /-- The engine registers hold legal values. -/
  engine : s.engine.Legal
  /-- `SNAP` is present exactly while `BUSY = 1` (R63). -/
  present : s.engine.busy = s.snap.isSome
  /-- The snapshot is legal, and its input length is `XFER_IN_LEN` (R216). -/
  snapshot : ∀ p, s.snap = some p → p.Legal ∧ s.xferInLen = some p.inLen
  /-- `XFER_IN_LEN` is an input length. -/
  xfer : ∀ n, s.xferInLen = some n → n ≤ 512
  /-- When no transaction is in flight the bytes that `read_result` copies are defined (R218, R222). -/
  result : ∀ n, s.xferInLen = some n → s.engine.busy = false →
    ∀ j, j < ceil8 n → ∃ b, s.engine.inBuf[j]? = some (some b)
  /-- Before `bus_init` there is no owner, no waiter and no transaction (R37 to R39). -/
  noLock : s.lock.ready = false → s.lock.owner = none ∧ s.lock.waiters = [] ∧ s.engine.busy = false
  /-- A transaction in flight has an owner, who cannot release before its end (R205). -/
  inFlight : s.engine.busy = true → s.lock.owner.isSome = true
  /-- An owned bus is programmed for a device (R202). -/
  programmed : s.lock.owner.isSome = true → s.latch.dev.isSome = true
  /-- The latch holds what the descriptor of its device says. -/
  latch : ∀ d, s.latch.dev = some d → s.latchedFor d
  /-- Every device's selector has `DEMUX_BITS` bits (R50, R446). -/
  selectors : ∀ (d : Nat) (dv : Device), s.devices[d]? = some dv → dv.demux < 2 ^ s.cfg.demuxBits
  /-- The demux pins have `DEMUX_BITS` bits (R49). -/
  pins : ∀ n, s.lines.demux = some n → n < 2 ^ s.cfg.demuxBits
  /-- The set of waiters is in its canonical form. -/
  waiters : s.lock.waiters.Pairwise fun p q => waiterLt p q = true
  /-- Every waiter waits for a device that exists. -/
  waited : ∀ p ∈ s.lock.waiters, p.2 < s.devices.length

/-! ### Who holds the bus (R97, R450) -/

/-- The operation waits for the bus: its first step is not done. -/
def Ctx.opens (x : Ctx) : Prop :=
  (x.pc = .i0Acquire ∨ x.pc = .beginOp) ∧ ∃ d, x.micro = [.acquire d]

/-- The operation has released the bus; only its result is still to be delivered. -/
def Ctx.released (x : Ctx) : Prop := x.micro = [] ∧ ∃ r, x.pc = .leaving r

/-- A context whose engine operations take the bus first and free it last, which leaves with a result of R60,
and which stores nothing in a pseudo-operation. -/
structure Ctx.Legal (x : Ctx) : Prop where
  first : ∀ d, EngineOp.acquire d ∈ x.micro → x.micro = [.acquire d] ∧ x.phase = .group
  last : EngineOp.release ∈ x.micro →
    (∃ r, x.pc = .leaving r) ∧ ∃ l, x.micro = l ++ [.release] ∧ EngineOp.release ∉ l
  exit : ∀ r, x.pc = .leaving r → x.phase = .group ∨ ∃ p, x.phase = .done p
  /-- CRCError is never produced (R60, R420, R422). -/
  noCrc : x.pc ≠ .leaving .crcError
  /-- A pseudo-operation streams nothing into caller memory (R251). -/
  noStore : x.pc = .pseudo ∨ x.pc = .pseudoAppCmd → ∀ base off left, x.phase ≠ .streamIn (.memory base) off left

/-- Every client that is inside a sequencer operation, past its `acquire` and not past its `release`, owns
the bus. -/
structure HoldsBus (s : State) : Prop where
  noLock : s.lock.ready = false → s.lock.owner = none
  legal : ∀ (c : Nat) (cl : Client) (x : Ctx), s.clients[c]? = some cl → cl.ctx = some x → x.Legal
  owner : ∀ (c : Nat) (cl : Client) (x : Ctx), s.clients[c]? = some cl → cl.ctx = some x →
    x.opens ∨ x.released ∨ s.lock.owner = some c

/-! ### The flag and the type of a card (R56, R310, R312) -/

/-- The device that a client's call initializes; none where it calls something else. -/
def Client.initializing (cl : Client) : Option Nat :=
  match cl.calls with
  | [] => none
  | .encoded call :: _ =>
    (match decodeCall call with
      | .ok (.sdInitialize d) | .ok (.upInitialize d) => some d
      | _ => none)
  | .pseudo _ :: _ => none

/-- An initialization under way and its device agree: up to I5 the candidate type is not SDHC; from I1 on the
session is UNINITIALIZED; the flag is 0 up to I5, at the commands of I6 and on the failure exit; at I6 and I7 it is
1 exactly when the card is SDHC. -/
def Ctx.agrees (x : Ctx) (dv : Device) : Prop :=
  match x.pc with
  | .i0Acquire | .i0Clear => x.cand ≠ some .sdhc
  | .i1Wake | .i2GoIdleState | .i3SendIfCond | .i4BringUp | .i4AppCmd | .i4SendOpCond | .i4Legacy
  | .i4Deadline | .i5ReadOcr =>
    dv.session = .uninitialized ∧ dv.hc = false ∧ x.cand ≠ some .sdhc
  | .i6SetBlocklen =>
    dv.session = .uninitialized ∧ (dv.hc = true ↔ x.cand = some .sdhc) ∧
      (x.phase ≠ .ready → dv.hc = false)
  | .i7Ready => dv.session = .uninitialized ∧ (dv.hc = true ↔ x.cand = some .sdhc)
  | .iFail _ => dv.session = .uninitialized ∧ dv.hc = false
  | _ => True

/-- A session agrees with its device's flag: a READY device has the flag exactly when its type is SDHC, and
a FAILED one does not have it. -/
def Device.settled (dv : Device) : Prop :=
  match dv.session with
  | .uninitialized => True
  | .ready card => dv.hc = true ↔ card = .sdhc
  | .failed _ => dv.hc = false

/-- Every device is settled, and every initialization under way agrees with its device. -/
structure FlagInv (s : State) : Prop where
  settled : ∀ (d : Nat) (dv : Device), s.devices[d]? = some dv → dv.settled
  running : ∀ (c : Nat) (cl : Client) (x : Ctx) (d : Nat) (dv : Device), s.clients[c]? = some cl →
    cl.ctx = some x → cl.initializing = some d → s.devices[d]? = some dv → x.agrees dv

end Sys2Proof.Machine
end

