-- ==== Sys2Proof/WellFormed.lean ====
section
/-! DEFINITION. Which terms of `Instr` an encoding spells: every operand fits the field that
spec/30_encoding.md R121 (or the wire format of R136) gives it.

A well-formed operand may still be outside the range its operation accepts (a `len` of 0, say): that is the
range guard of R206, which the operation's meaning checks, and it is not a matter of form. -/

namespace Sys2Proof

/-- Device ids, units, references to caller memory, block numbers and block counts are 32-bit fields of a
request (R121 for the block numbers and counts; the model's choice for the others, assumption 2). -/
def fits32 (n : Nat) : Bool := decide (n < 2 ^ 32)

/-- Every operand of the instruction fits its field. -/
def Instr.wellFormed : Instr → Bool
  | .busInit => true
  | .acquire dev => fits32 dev
  | .release => true
  | .setClock _ => true
  | .csAssert => true
  | .csDeassert => true
  | .reset => true
  | .setCommand len _ => decide (len < 2 ^ 5)
  | .setAddress len _ => decide (len < 2 ^ 6)
  | .setOutput len bytes => decide (len < 2 ^ 10) && fits32 bytes
  | .setOutputPattern len _ => decide (len < 2 ^ 10)
  | .configureExec _ dummy recv _ => decide (dummy < 2 ^ 9) && decide (recv < 2 ^ 10)
  | .execute => true
  | .wait => true
  | .readResult buf => fits32 buf
  | .sdInitialize dev => fits32 dev
  | .sdRead dev first count buf => fits32 dev && fits32 first && fits32 count && fits32 buf
  | .sdWrite dev first count buf => fits32 dev && fits32 first && fits32 count && fits32 buf
  | .sdErase dev first last => fits32 dev && fits32 first && fits32 last
  | .sdReadCid dev buf => fits32 dev && fits32 buf
  | .sdReadCsd dev buf => fits32 dev && fits32 buf
  | .status unit => fits32 unit
  | .upInitialize unit => fits32 unit
  | .upRead unit first count buf => fits32 unit && fits32 first && fits32 count && fits32 buf
  | .upWrite unit first count buf => fits32 unit && fits32 first && fits32 count && fits32 buf
  | .blockCount unit => fits32 unit
  | .sectorSize unit => fits32 unit
  | .eraseGranularity unit => fits32 unit
  | .cmd0GoIdleState => true
  | .cmd1SendOpCond => true
  | .cmd8SendIfCond => true
  | .cmd9SendCsd => true
  | .cmd10SendCid => true
  | .cmd12StopTransmission => true
  | .cmd16SetBlocklen => true
  | .cmd17ReadSingleBlock _ => true
  | .cmd18ReadMultipleBlock _ => true
  | .cmd24WriteBlock _ => true
  | .cmd25WriteMultipleBlock _ => true
  | .cmd32EraseWrBlkStart _ => true
  | .cmd33EraseWrBlkEnd _ => true
  | .cmd38Erase => true
  | .cmd55AppCmd => true
  | .cmd58ReadOcr => true
  | .acmd23SetWrBlkEraseCount _ => true
  | .acmd41SdV2Hcs => true
  | .acmd41SdV1 => true
  | .r1Status _ => true
  | .r3StatusOcr _ _ => true
  | .r7StatusEcho _ _ _ => true
  | .fillerNotBusy => true
  | .dataStartToken => true
  | .multiBlockWriteStartToken => true
  | .multiBlockStopToken => true
  | .dataResponseAccepted _ => true
  | .dataResponseRejected _ n => n != 5

end Sys2Proof
end

