-- ==== Sys2Proof/Certificates/Slice0/Obligations.lean ====
section
/-! DEFINITION. The statements for the provers. Each docstring names the rules of spec/ it rests on. -/

open Sys2Proof Sys2Proof.Machine

/-! ### Encodings -/

/-- R120 to R136: decoding the encoding of a well-formed instruction gives it back, with every operand, whatever
follows it. -/
def Obligations.DecodeReadsEveryEncoding : Prop :=
  ∀ (i : Instr) (rest : List Byte), i.wellFormed = true →
    decodeAt (portOf i) (encode i ++ rest) = .ok (i, rest)

/-- R120 to R136, the other direction: bytes that decode are the encoding of the well-formed instruction they
decode to, so no two byte strings spell one instruction at a port. -/
def Obligations.DecodedBytesAreTheEncoding : Prop :=
  ∀ (port : Port) (bs rest : List Byte) (i : Instr), decodeAt port bs = .ok (i, rest) →
    i.wellFormed = true ∧ portOf i = port ∧ bs = encode i ++ rest

/-- R121, R122: the OPCs outside the map, 0x0F, 0x16 to 0x1F and 0x27 to 0xFF, are exactly those that spell no
operation, and a client that requests one is refused. -/
def Obligations.UnmappedOpcodesAreRefused : Prop :=
  (∀ (opc : Byte) (bs : List Byte), decodeRequest (opc :: bs) = .error .illegalOpcode ↔
    opc.toNat = 0x0F ∨ (0x16 ≤ opc.toNat ∧ opc.toNat ≤ 0x1F) ∨ 0x27 ≤ opc.toNat) ∧
  ∀ (s s' : State) (c : Nat) (opc : Byte) (bs : List Byte), s.nextAgent = (.client c, s') →
    s'.pendingCall c = some (.encoded ⟨.request, opc :: bs⟩) → decodeRequest (opc :: bs) = .error .illegalOpcode →
    step s = .refused (.illegalEncoding .illegalOpcode)

/-- R123: the 48-bit value of a frame has framing 0b01, the index, the argument, the CRC7 and the stop bit 1, and the
six bytes of the frame are its bits, bit 47 first. -/
def Obligations.FrameHasTheSdLayout : Prop :=
  ∀ (idx : BitVec 6) (arg : BitVec 32),
    (frameValue idx arg).extractLsb' 46 2 = 0b01#2 ∧ (frameValue idx arg).extractLsb' 40 6 = idx ∧
    (frameValue idx arg).extractLsb' 8 32 = arg ∧
    (frameValue idx arg).extractLsb' 1 7 = crc7 [frameHead idx, arg.extractLsb' 24 8, arg.extractLsb' 16 8,
      arg.extractLsb' 8 8, arg.extractLsb' 0 8] ∧ (frameValue idx arg).extractLsb' 0 1 = 1#1 ∧
    wireBits (frameBytes idx arg) = fieldBits 48 (frameValue idx arg) .msbFirst ∧
    frameBytes idx arg = [0x40#8 ||| idx.setWidth 8, arg.extractLsb' 24 8, arg.extractLsb' 16 8,
      arg.extractLsb' 8 8, arg.extractLsb' 0 8,
      ((frameValue idx arg).extractLsb' 1 7).setWidth 8 <<< 1 ||| 1#8]

/-- R126: the CRC7 of a sequence of bytes is the remainder of the division by `x^7 + x^3 + 1` of its bits, most
significant first, followed by seven zeros; and the last bytes of CMD0 and of CMD8 are 0x95 and 0x87. -/
def Obligations.CrcIsTheRemainder : Prop :=
  (∀ bs : List Byte, divide (8 * bs.length) (wireBits bs ++ List.replicate 7 false) =
    fieldBits 7 (crc7 bs) .msbFirst) ∧
  frameCrcByte 0 0 = 0x95#8 ∧ frameCrcByte 8 0x1AA = 0x87#8

/-- Words decode to what they stand for: a request of each family, a frame (R131, spec/95_test_vectors.md section 2.3),
a response (R128), and tokens (R134, R136), each written out from the spec's encoding of it. Of the requests the
spec gives the OPC and the operands' widths (R121); how the operands lie in bytes after the OPC is the model's
choice (log entry 2). -/
def Obligations.WordsDecodeAsTheSpecSays : Prop :=
  decodeRequest [0x07, 0x08, 0x48, 0x00] = .ok (.setCommand 8 0x48, []) ∧
  decodeRequest [0x11, 1, 0, 0, 0, 5, 0, 0, 0, 2, 0, 0, 0, 0, 0x10, 0, 0] = .ok (.sdRead 1 5 2 0x1000, []) ∧
  decodeRequest [0x24, 0, 0, 0, 0] = .ok (.blockCount 0, []) ∧
  decodeFrame [0x51, 0xFF, 0xFF, 0xFE, 0x00, 0x9B] = .ok (.cmd17ReadSingleBlock 0xFFFFFE00, []) ∧
  decodeResponse .r3 [0x00, 0xC0, 0xFF, 0x80, 0x00] = .ok (.r3StatusOcr 0 0xC0FF8000, []) ∧
  decodeToken [0xFC] = .ok (.multiBlockWriteStartToken, []) ∧
  decodeDataResponse [0xE5] = .ok (.dataResponseAccepted 0xE, [])

/-- R136: a data-response token is accepted exactly when its low nibble is 0b0101, whatever its bits 7 to 4 are;
every other low nibble is a rejection. -/
def Obligations.DataResponseIsItsLowNibble : Prop :=
  ∀ (b : Byte) (rest : List Byte),
    ((b &&& 0x0F#8) = 0x05#8 ↔
      decodeDataResponse (b :: rest) = .ok (.dataResponseAccepted (b.extractLsb' 4 4), rest)) ∧
    ((b &&& 0x0F#8) ≠ 0x05#8 ↔ decodeDataResponse (b :: rest) =
      .ok (.dataResponseRejected (b.extractLsb' 4 4) (b.extractLsb' 0 4), rest))

/-! ### Steps -/

/-- R31: when it is the turn of a client that asks for bytes which decode to an instruction (R120), the step is exec
of that instruction with that client as the requester, and when it asks for a pseudo-operation (R161), the step is
that operation's; when it is the shifter's turn, the step is the shifter's; and the encoding of a well-formed
instruction, placed where the next step fetches, is run by it. The block has no instruction fetch (R99): that a
client's requests stand in a list and where the next one is placed (withCall) is the model's choice (log entry
21), and so is how the turn is taken (nextAgent, log entry 12). -/
def Obligations.StepRunsTheDecodedInstruction : Prop :=
  (∀ (s s' : State) (c : Nat) (call : Call) (i : Instr), s.nextAgent = (.client c, s') →
    s'.pendingCall c = some (.encoded call) → decodeCall call = .ok i → step s = exec i (s'.withCur c)) ∧
  (∀ (s s' : State) (c : Nat) (op : PseudoOp), s.nextAgent = (.client c, s') →
    s'.pendingCall c = some (.pseudo op) → step s = execPseudo op (s'.withCur c)) ∧
  (∀ s s' : State, s.nextAgent = (.shifter, s') → step s = .next (shifterStep s')) ∧
  (∀ (s : State) (i : Instr), i.wellFormed = true →
    step (s.withCall (callOf i)) =
      exec i ((s.withClients (placeCall (callOf i) s.clients)).withCur 0))

/-- R37 to R49, R55, R62, R63: the power-on state: no lock, no owner, no waiter, BUSY = 0, no snapshot, every
other engine register, the latch, the chip-select line and the demux pins UNDEF, every session UNINITIALIZED, and
no client runs an operation. That no client calls anything yet, its list of requests being empty, is no value of R62 but
the model's choice (log entry 21). -/
def Obligations.PowerOnState : Prop :=
  let s := State.reset
  s.lock = ⟨false, none, []⟩ ∧ s.engine.busy = false ∧ s.snap = none ∧ s.xferInLen = none ∧
  (s.engine.cmdEn = none ∧ s.engine.cmdLen = none ∧ s.engine.cmdVal = none ∧ s.engine.addrEn = none ∧
    s.engine.addrLen = none ∧ s.engine.addrVal = none ∧ s.engine.outEn = none ∧ s.engine.outLen = none ∧
    s.engine.dummyLen = none ∧ s.engine.inLen = none ∧ s.engine.outBe = none ∧ s.engine.inBe = none ∧
    s.engine.outBuf = List.replicate 64 none ∧ s.engine.inBuf = List.replicate 64 none) ∧
  s.latch = ⟨none, none, none, none, none, none⟩ ∧ s.lines.cs = none ∧ s.lines.demux = none ∧
  (∀ dv ∈ s.devices, dv.session = .uninitialized) ∧ (∀ cl ∈ s.clients, cl.ctx = none ∧ cl.calls = [])

/-- The invariants of the machine hold at power-on. -/
def Obligations.ResetMeetsTheInvariants : Prop :=
  Inv State.reset ∧ HoldsBus State.reset ∧ FlagInv State.reset

/-- Every step keeps the invariant: caller memory stays canonical, the engine registers stay legal (R40 to R47),
SNAP is present exactly while BUSY = 1 (R63), what read_result copies is defined (R218), nothing is owned before
bus_init, a transaction in flight has an owner (R205), the latch and lines are those of the device the bus was
acquired for (R48, R49, R202), and every device's selector and the demux pins have DEMUX_BITS bits (R49, R50). -/
def Obligations.StepKeepsTheInvariant : Prop :=
  ∀ s t : State, Inv s → step s = .next t → Inv t

/-- R31, R60, R97, R450: every step keeps this: a client inside a sequencer operation, past its acquire and not past its
release, owns the bus, none is about to leave with CRCError, and no pseudo-operation (R161, R251) streams into caller
memory. -/
def Obligations.OperationsHoldTheBus : Prop :=
  ∀ s t : State, HoldsBus s → step s = .next t → HoldsBus t

/-- R56, R310, R312: every step keeps this: a READY device has the high-capacity flag exactly when its type is SDHC,
and a FAILED device does not have it. -/
def Obligations.FlagAgreesWithType : Prop :=
  ∀ s t : State, HoldsBus s → FlagInv s → step s = .next t → FlagInv t

/-- R32: the parameters, the number of clients and of devices, and every descriptor field but hc are configuration:
no step changes them. -/
def Obligations.ConfigurationNeverChanges : Prop :=
  ∀ s t : State, step s = .next t → t.cfg = s.cfg ∧ t.clients.length = s.clients.length ∧
    t.devices.length = s.devices.length ∧
    ∀ (d : Nat) (dv dv' : Device), s.devices[d]? = some dv → t.devices[d]? = some dv' →
      dv'.clock = dv.clock ∧ dv'.mode = dv.mode ∧ dv'.bitOrder = dv.bitOrder ∧ dv'.csMode = dv.csMode ∧
      dv'.sharedIo = dv.sharedIo ∧ dv'.demux = dv.demux

/-- R52, R55: of what a client can ask for, only initialize and sd_initialize write a device's flag or session; every
other instruction and every pseudo-operation (R161; that a client may call one is the model's choice, log entry 17)
leaves both of every device as they were. (The shifter leaves them too: ShifterFrame.) -/
def Obligations.OnlyInitializeWritesFlagAndSession : Prop :=
  ∀ s t : State, (∃ i, initializes i = false ∧ exec i s = .next t) ∨ (∃ op, execPseudo op s = .next t) →
    ∀ (d : Nat) (dv dv' : Device), s.devices[d]? = some dv → t.devices[d]? = some dv' →
      dv'.hc = dv.hc ∧ dv'.session = dv.session

/-- R201, R205, R435: while a client owns the bus, an instruction or a pseudo-operation (a client's own call of which
is the model's choice, log entry 17) of another client changes none of the engine registers, the snapshot,
XFER_IN_LEN, the latch and the lines, and does not take the bus. -/
def Obligations.OnlyTheOwnerDrivesTheBus : Prop :=
  ∀ (s t : State) (o : Nat), s.lock.ready = true → s.lock.owner = some o → s.cur ≠ o → clientLeads s t →
    t.engine = s.engine ∧ t.snap = s.snap ∧ t.xferInLen = s.xferInLen ∧ t.latch = s.latch ∧
    t.lines = s.lines ∧ t.lock.owner = some o ∧ t.lock.ready = true

/-- R35, R36, R450, R451: an instruction or a pseudo-operation (a client's own call of which is the model's choice,
log entry 17) leaves the record of every other client, its calls, its results and its context, as it was, and it
changes no parameter and no wire log; and TIME never goes back, whoever takes the step. -/
def Obligations.StepsLeaveOthersAlone : Prop :=
  (∀ s t : State, clientLeads s t →
     (∀ c, c ≠ s.cur → t.clients[c]? = s.clients[c]?) ∧ t.cfg = s.cfg ∧ t.cur = s.cur ∧
     ∀ (d : Nat) (dv dv' : Device), s.devices[d]? = some dv → t.devices[d]? = some dv' → dv'.wire = dv.wire) ∧
  (∀ s t : State, step s = .next t → s.time ≤ t.time)

/-- R17, R84, R218, R255, R370, R371: the frame of caller memory. An instruction that does not store leaves every byte
as it was, given that the context it runs in is not one that streams into caller memory. Of those that store,
read_result writes the ceil8(XFER_IN_LEN) bytes of its buffer, a block read writes the chunk it has just read at the
address its context says, a register read writes the bytes of its image to its buffer, and every other byte reads as
before. A pseudo-operation (R161; a client's own call of one is the model's choice, log entry 17) writes no byte, in a
state of the invariant of OperationsHoldTheBus. -/
def Obligations.MemoryFrame : Prop :=
  (∀ (i : Instr) (s t : State), stores i = false → (∀ x, s.ctx = some x → ¬ ∃ b o l, x.phase = .streamIn (.memory b) o l) →
    exec i s = .next t → ∀ a, t.byteAt a = s.byteAt a) ∧
  (∀ (buf : Nat) (s t : State), Memory.wf s.mem = true → exec (.readResult buf) s = .next t →
    ∀ a n, s.xferInLen = some n → (a < buf ∨ buf + ceil8 n ≤ a) → t.byteAt a = s.byteAt a) ∧
  (∀ (d first count buf : Nat) (s t : State) (i : Instr),
    i = .sdRead d first count buf ∨ i = .upRead d first count buf → Memory.wf s.mem = true →
    exec i s = .next t → ∀ a,
    (∀ x base off left, s.ctx = some x → x.micro = [] → x.phase = .streamIn (.memory base) off left →
      a < base + off ∨ base + off + x.tmp.length ≤ a) → t.byteAt a = s.byteAt a) ∧
  (∀ (d buf : Nat) (s t : State) (i : Instr), i = .sdReadCid d buf ∨ i = .sdReadCsd d buf →
    Memory.wf s.mem = true → (∀ x, s.ctx = some x → ¬ ∃ b o l, x.phase = .streamIn (.memory b) o l) →
    exec i s = .next t → ∀ a,
    (∀ x, s.ctx = some x → x.pc = .rgStore → a < buf ∨ buf + x.image.length ≤ a) →
    t.byteAt a = s.byteAt a) ∧
  (∀ (op : PseudoOp) (s t : State), HoldsBus s → execPseudo op s = .next t → ∀ a, t.byteAt a = s.byteAt a)

/-- R427: a client that owns the bus, with no transaction in flight, and calls acquire again is stuck: whatever step is
taken, it still owns the bus and is still in that call. (With a transaction in flight the call is refused: log
entry 11.) -/
def Obligations.NestedAcquireIsStuck : Prop :=
  ∀ (s t : State) (c dev : Nat), dev < 2 ^ 32 → s.nestedAcquire c dev → step s = .next t → t.nestedAcquire c dev

/-! ### Lock and bus lines -/

/-- R200: bus_init creates the lock when there is none, and is refused when there is one. -/
def Obligations.BusInitCreatesTheLock : Prop :=
  ∀ s : State,
    (s.lock.ready = false → exec .busInit s = .next ((s.withLock ⟨true, none, []⟩).complete .done)) ∧
    (s.lock.ready = true → exec .busInit s = .refused .lockExists)

/-- R39, R202, R203: with the bus free, acquire takes it in one step: the client is the owner and no longer waits,
the latch is the descriptor's, the demux pins carry its selector, chip-select is deasserted, and the engine's
fields are as they were. With the bus owned and no transaction in flight the client is put among the waiters and
stays in its call, and a client that waits already goes on waiting whatever BUSY is. While a transaction is in flight
the owner's own call is refused (R473, R425), and another client's new call is refused or waits as a constant without
a value has it, since R425 and R205 refuse it and R202 and R205's pseudocode make it wait (the model's choice for both:
log entry 11). Without the lock, and for a device that does not exist, it is refused. The waiters
are a set: a pair that is put in is in it, one that is taken out is not, and every other pair is as before. -/
def Obligations.AcquireTakesTheBusOrWaits : Prop :=
  (∀ (s : State) (dev : Nat),
     (∀ d, s.lock.ready = true → s.lock.owner = none → s.devices[dev]? = some d →
       ∃ t, exec (.acquire dev) s = .next (t.complete .done) ∧
         t.lock = { s.lock with owner := some s.cur, waiters := removeWaiter (s.cur, dev) s.lock.waiters } ∧
         t.latch = ⟨some dev, some d.clock, some d.mode, some d.bitOrder, some d.csMode, some d.sharedIo⟩ ∧
         t.lines = { s.lines with demux := some (s.selector d), cs := some .deasserted } ∧
         t = ((s.withLock t.lock).withLatch t.latch).withLines t.lines) ∧
     (∀ d, s.devices[dev]? = some d → s.selector d < 2 ^ s.cfg.demuxBits ∧
       (d.demux < 2 ^ s.cfg.demuxBits → s.selector d = d.demux)) ∧
     (∀ d o, s.lock.ready = true → s.lock.owner = some o → s.devices[dev]? = some d →
       let waiting := .next (s.withLock { s.lock with waiters := insertWaiter (s.cur, dev) s.lock.waiters })
       (s.engine.busy = false ∨ (o ≠ s.cur ∧ (s.cur, dev) ∈ s.lock.waiters) → exec (.acquire dev) s = waiting) ∧
       (s.engine.busy = true → o ≠ s.cur → (s.cur, dev) ∉ s.lock.waiters → exec (.acquire dev) s =
         if Config.busyAcquireWaits then waiting else .refused .busy)) ∧
     (∀ d, s.lock.ready = true → s.lock.owner = some s.cur → s.engine.busy = true → s.devices[dev]? = some d →
       exec (.acquire dev) s = .refused .busy) ∧
     (s.lock.ready = false → exec (.acquire dev) s = .refused .noLock) ∧
     (s.lock.ready = true → s.devices.length ≤ dev → exec (.acquire dev) s = .refused .range)) ∧
  (∀ (p q : Nat × Nat) (l : List (Nat × Nat)),
     (q ∈ insertWaiter p l ↔ q = p ∨ q ∈ l) ∧ (q ∈ removeWaiter p l ↔ q ≠ p ∧ q ∈ l))

/-- R204: release by the owner with no transaction in flight frees the bus and changes nothing else; by another client,
or while BUSY = 1, it is refused. -/
def Obligations.ReleaseFreesTheBus : Prop :=
  ∀ s : State,
    (s.ready → exec .release s = .next ((s.withLock { s.lock with owner := none }).complete .done)) ∧
    (s.owns s.cur = false → exec .release s = .refused .notOwner) ∧
    (s.owns s.cur = true → s.engine.busy = true → exec .release s = .refused .busy)

/-- R83, R85, R99, R205, R206, R216, R425: what the engine refuses. An engine operation other than bus_init and
acquire by a client that does not own the bus or before bus_init, and each of them, acquire with them, other than wait
and read_result by the owner while BUSY = 1; that the owner's acquire is among them is the model's reading of R425 and
R473 beside R202 and R205's pseudocode, and another client's is left open (log entry 11). An operand outside its
range, never clamped or masked. execute, while an enable, a length or a flag is UNDEF, or, with OUT_BE or IN_BE, for a
length that is not a multiple of 32. And set_output and read_result on a buffer that shares a byte with one that
another client's operation owns; that set_output is refused so before its other guards, and how long a buffer is
owned, is the model's reading of R99 (log entry 19, DEDUCED). -/
def Obligations.EngineRefusals : Prop :=
  (∀ (i : Instr) (s : State), ownerOnly i = true →
     (s.lock.ready = false ∨ s.lock.owner ≠ some s.cur → ∃ r, exec i s = .refused r) ∧
     (waits i = false → s.engine.busy = true → ∃ r, exec i s = .refused r)) ∧
  (∀ (s : State) (dev : Nat), s.lock.owner = some s.cur → s.engine.busy = true →
     ∃ r, exec (.acquire dev) s = .refused r) ∧
  (∀ (s : State) (base n : Nat), ownedByOther s.cur base n 0 s.clients = true ↔
     ∃ c cl x b m a, c ≠ s.cur ∧ s.clients[c]? = some cl ∧ cl.ctx = some x ∧ x.claim = some (b, m) ∧
       base ≤ a ∧ a < base + n ∧ b ≤ a ∧ a < b + m) ∧
  (∀ (s : State) (len buf : Nat), ownedByOther s.cur buf (ceil8 len) 0 s.clients = true →
     exec (.setOutput len buf) s = .refused .bufferOwned) ∧
  (∀ (s : State) (buf n : Nat), s.owns s.cur = true → s.engine.busy = false → s.xferInLen = some n →
     (∀ j, j < ceil8 n → ∃ b, s.engine.inBuf[j]? = some (some b)) →
     ownedByOther s.cur buf (ceil8 n) 0 s.clients = true → exec (.readResult buf) s = .refused .bufferOwned) ∧
  (∀ (s : State) (len dummy recv r : Nat) (beo bei : Bool) (w : BitVec 32), s.ready →
     (∀ v : BitVec 16, len = 0 ∨ 16 < len ∨ 2 ^ len ≤ v.toNat → exec (.setCommand len v) s = .refused .range) ∧
     (len = 0 ∨ 32 < len ∨ 2 ^ len ≤ w.toNat → exec (.setAddress len w) s = .refused .range) ∧
     (len = 0 ∨ 512 < len → exec (.setOutputPattern len w) s = .refused .range) ∧
     (len = 0 ∨ 512 < len → s.readBuffer r (ceil8 len) ≠ none → exec (.setOutput len r) s = .refused .range) ∧
     (256 < dummy ∨ 512 < recv → exec (.configureExec beo dummy recv bei) s = .refused .range)) ∧
  (∀ s : State, s.ready →
     (s.engine.cmdEn = none ∨ s.engine.addrEn = none ∨ s.engine.outEn = none ∨ s.engine.dummyLen = none ∨
       s.engine.inLen = none ∨ s.engine.outBe = none ∨ s.engine.inBe = none ∨
       (s.engine.cmdEn = some true ∧ (s.engine.cmdLen = none ∨ s.engine.cmdVal = none)) ∨
       (s.engine.addrEn = some true ∧ (s.engine.addrLen = none ∨ s.engine.addrVal = none)) ∨
       (s.engine.outEn = some true ∧ s.engine.outLen = none) →
       exec .execute s = .refused .undefField) ∧
     (∀ n, s.engine.outEn = some true → s.engine.outBe = some true → s.engine.outLen = some n → n % 32 ≠ 0 →
       ∃ r, exec .execute s = .refused r) ∧
     (∀ n, s.engine.inBe = some true → s.engine.inLen = some n → n % 32 ≠ 0 →
       ∃ r, exec .execute s = .refused r))

/-- R207, R208, R209: the owner sets the clock word, asserts and deasserts chip-select; in hardware-timed mode the two
chip-select operations are refused. -/
def Obligations.BusLineOperations : Prop :=
  ∀ s : State, s.ready →
    (∀ word, exec (.setClock word) s = .next ((s.withLatch { s.latch with clock := some word }).complete .done)) ∧
    (s.latch.csMode = some .software →
      exec .csAssert s = .next ((s.withLines { s.lines with cs := some .asserted }).complete .done) ∧
      exec .csDeassert s = .next ((s.withLines { s.lines with cs := some .deasserted }).complete .done)) ∧
    (s.latch.csMode = some .hardware →
      exec .csAssert s = .refused .csMode ∧ exec .csDeassert s = .refused .csMode)

/-! ### The field builder -/

/-- R210: reset clears the enables, DUMMY_LEN, IN_LEN and the byte-order flags, makes the other fields UNDEF, and keeps
IN_BUF, XFER_IN_LEN and everything else. -/
def Obligations.ResetClearsTheFields : Prop :=
  ∀ s : State, s.ready → ∃ e, exec .reset s = .next ((s.withEngine e).complete .done) ∧
    e.cmdEn = some false ∧ e.addrEn = some false ∧ e.outEn = some false ∧ e.dummyLen = some 0 ∧
    e.inLen = some 0 ∧ e.outBe = some false ∧ e.inBe = some false ∧ e.cmdLen = none ∧ e.cmdVal = none ∧
    e.addrLen = none ∧ e.addrVal = none ∧ e.outLen = none ∧ e.outBuf = List.replicate 64 none ∧
    e.inBuf = s.engine.inBuf ∧ e.busy = false

/-- R211, R212, R215: set_command and set_address write their field and nothing else; configure_exec writes the
byte-order flags and the dummy and input lengths, all four and nothing else. -/
def Obligations.CommandAddressAndShape : Prop :=
  (∀ (s : State) (len : Nat), s.ready →
     (∀ value : BitVec 16, 1 ≤ len → len ≤ 16 → value.toNat < 2 ^ len →
       exec (.setCommand len value) s = .next ((s.withEngine
         { s.engine with cmdEn := some true, cmdLen := some len, cmdVal := some value }).complete .done)) ∧
     (∀ value : BitVec 32, 1 ≤ len → len ≤ 32 → value.toNat < 2 ^ len →
       exec (.setAddress len value) s = .next ((s.withEngine
         { s.engine with addrEn := some true, addrLen := some len, addrVal := some value }).complete .done))) ∧
  (∀ (s : State) (beo bei : Bool) (dummy recv : Nat), s.ready → dummy ≤ 256 → recv ≤ 512 →
     exec (.configureExec beo dummy recv bei) s = .next ((s.withEngine
       { s.engine with
         outBe := some beo, dummyLen := some dummy, inLen := some recv, inBe := some bei }).complete .done))

/-- R213, R214: set_output takes ceil8(len) bytes of the caller's memory and makes the rest of OUT_BUF UNDEF;
set_output_pattern fills OUT_BUF with the bytes of the word, least significant first. Each replaces what the other
wrote, and neither changes anything else. -/
def Obligations.OutputField : Prop :=
  ∀ (s : State) (len : Nat), s.ready → 1 ≤ len → len ≤ 512 →
    (∀ (r : Nat) (bs : List Byte), s.readBuffer r (ceil8 len) = some bs →
      ∃ buf, exec (.setOutput len r) s = .next ((s.withEngine
        { s.engine with outEn := some true, outLen := some len, outBuf := buf }).complete .done) ∧
        buf.length = 64 ∧
        (∀ i, i < ceil8 len → buf[i]? = some (some (s.byteAt (r + i)))) ∧
        (∀ i, ceil8 len ≤ i → i < 64 → buf[i]? = some none)) ∧
    (∀ word : BitVec 32, ∃ buf, exec (.setOutputPattern len word) s = .next ((s.withEngine
        { s.engine with outEn := some true, outLen := some len, outBuf := buf }).complete .done) ∧
        buf.length = 64 ∧
        ∀ g j, g < 16 → j < 4 → buf[4 * g + j]? = some (some (word.extractLsb' (8 * j) 8)))

/-! ### Execution and the shifter -/

/-- R80, R81, R82, R86, R216: execute snapshots the transaction. Its MOSI bits are the command field's, the address
field's and the output field's, each where its enable is 1, and then a 1 for every dummy and input clock. The bits the
block drives on a shared line (R86) are those of the three fields, as many as their lengths say. BUSY and XFER_IN_LEN
are set, and nothing else changes. -/
def Obligations.ExecuteSnapshotsTheTransaction : Prop :=
  ∀ (s : State) (bo : BitOrder) (cm : CsMode) (ce ae oe obe ibe : Bool) (cl al ol dl il : Nat)
    (cv : BitVec 16) (av : BitVec 32) (out : List Byte),
    s.ready → s.latch.bitOrder = some bo → s.latch.csMode = some cm →
    s.engine.cmdEn = some ce → (ce = true → s.engine.cmdLen = some cl ∧ s.engine.cmdVal = some cv) →
    s.engine.addrEn = some ae → (ae = true → s.engine.addrLen = some al ∧ s.engine.addrVal = some av) →
    s.engine.outEn = some oe →
    (oe = true → s.engine.outLen = some ol ∧ outStream s.engine.outBuf obe (ceil8 ol) = some out ∧
      (obe = true → ol % 32 = 0)) →
    s.engine.outBe = some obe → s.engine.inBe = some ibe → s.engine.dummyLen = some dl →
    s.engine.inLen = some il → (0 < il → ibe = true → il % 32 = 0) →
    ∃ p, exec .execute s =
        .next ((((s.withSnap (some p)).withXfer (some il)).withEngine { s.engine with busy := true }).complete .done) ∧
      p.mosi = (if ce then fieldBits cl cv bo else []) ++ (if ae then fieldBits al av bo else []) ++
        (if oe then outBits ol out bo else []) ++ List.replicate (dl + il) true ∧
      p.driven = (if ce then cl else 0) + (if ae then al else 0) + (if oe then ol else 0) ∧
      p.inLen = il ∧ p.inBe = ibe ∧ p.bitOrder = bo ∧ p.csMode = cm ∧ p.pos = 0 ∧ p.samples = []

/-- R80, R95, R223: from a state of the invariant, a transaction that execute starts has one event for every bit of
the enabled fields and every dummy and input clock, at most 1328, and MOSI is 1 in the dummy and input phases;
and a started transaction always completes, within 1328 steps of the shifter. -/
def Obligations.TransactionsAreBounded : Prop :=
  (∀ s t : State, Inv s → exec .execute s = .next t →
     ∃ p cl al ol dl il, t.snap = some p ∧
       (s.engine.cmdEn = some true → s.engine.cmdLen = some cl) ∧ (s.engine.cmdEn = some false → cl = 0) ∧
       (s.engine.addrEn = some true → s.engine.addrLen = some al) ∧ (s.engine.addrEn = some false → al = 0) ∧
       (s.engine.outEn = some true → s.engine.outLen = some ol) ∧ (s.engine.outEn = some false → ol = 0) ∧
       s.engine.dummyLen = some dl ∧ s.engine.inLen = some il ∧
       p.mosi.length = cl + al + ol + dl + il ∧ p.mosi.length ≤ 1328 ∧
       ∀ k, cl + al + ol ≤ k → k < p.mosi.length → p.mosi[k]? = some true) ∧
  (∀ s : State, Inv s → s.engine.busy = true →
     ∃ n, 1 ≤ n ∧ n ≤ 1328 ∧ (shifterRun n s).engine.busy = false)

/-- R217, R218: wait completes at once when BUSY = 0, and keeps polling, changing nothing, while BUSY = 1.
read_result waits likewise; then it copies the first ceil8(XFER_IN_LEN) bytes of IN_BUF to the caller's buffer,
and every other byte of memory and every other part of the state is as before. Before any execute it is refused. -/
def Obligations.WaitAndReadResult : Prop :=
  (∀ s : State, s.owns s.cur = true →
     (s.engine.busy = false → exec .wait s = .next (s.complete .done)) ∧
     (s.engine.busy = true → exec .wait s = .next s)) ∧
  (∀ (s : State) (buf : Nat), s.owns s.cur = true → Memory.wf s.mem = true →
     (∀ (n : Nat) (bs : List Byte), s.engine.busy = false → s.xferInLen = some n →
       (∀ j, j < ceil8 n → ∃ b, s.engine.inBuf[j]? = some (some b) ∧ bs[j]? = some b) → bs.length = ceil8 n →
       ownedByOther s.cur buf (ceil8 n) 0 s.clients = false →
       ∃ m, exec (.readResult buf) s = .next ((s.withMem m).complete .done) ∧
         (∀ j b, bs[j]? = some b → Memory.read m (buf + j) = b) ∧
         ∀ a, a < buf ∨ buf + ceil8 n ≤ a → Memory.read m a = s.byteAt a) ∧
     (∀ n, s.engine.busy = true → s.xferInLen = some n → exec (.readResult buf) s = .next s) ∧
     (s.xferInLen = none → exec (.readResult buf) s = .refused .noTransfer))

/-- R80, R85, R86, R220, R222, R467: the shifter moves the bits of a transaction. From its start, one step for each
event, it sends the snapshot's MOSI bits, in order, to the device that is selected; it keeps the MISO samples of the
last IN_LEN events and packs them into the first bytes of IN_BUF; and only then BUSY is 0. The device is sent them
with software-driven chip-select where the line is asserted, and with hardware-timed chip-select always. A transaction
with no event ends in one step with no clock: SNAP is gone and BUSY is 0, and nothing else changes. An event leaves
the MOSI line at its bit; with MOSI and MISO on one shared line (R86) the block drives the line in the command,
address and output phases and not in the dummy and input phases. -/
def Obligations.ShifterMovesTheBits : Prop :=
  (∀ (s : State) (p : Snap), s.snap = some p → p.pos < p.mosi.length →
    (s.latch.sharedIo ≠ some true ∨ p.pos < p.driven → (shifterStep s).lines.mosi = p.mosi[p.pos]?) ∧
    (s.latch.sharedIo = some true → p.driven ≤ p.pos → (shifterStep s).lines.mosi = none)) ∧
  (∀ (s : State) (p : Snap), s.snap = some p → p.Legal → p.mosi = [] →
    shifterStep s = (s.withSnap none).withEngine { s.engine with busy := false }) ∧
  ∀ (s : State) (p : Snap) (ms rest : List Bool), s.snap = some p → s.engine.busy = true → p.Legal → p.pos = 0 →
    p.mosi ≠ [] → s.env.miso = ms ++ rest → ms.length = p.mosi.length →
    (∀ k, k < p.mosi.length → (shifterRun k s).engine.busy = true) ∧
    (shifterRun p.mosi.length s).engine.busy = false ∧ (shifterRun p.mosi.length s).snap = none ∧
    (shifterRun p.mosi.length s).env.miso = rest ∧
    (shifterRun p.mosi.length s).lines.sclk = s.lines.sclk + p.mosi.length ∧
    (shifterRun p.mosi.length s).engine = { s.engine with
      busy := false
      inBuf := storeStream p.inBe 0
        (inStream p.bitOrder (ms.drop (p.mosi.length - p.inLen)) p.inLen s.env.draws) s.engine.inBuf } ∧
    ∀ (d : Nat) (dv : Device), p.csMode = .hardware ∨ s.lines.cs = some .asserted → s.latch.dev = some d →
      s.devices[d]? = some dv →
      (shifterRun p.mosi.length s).devices[d]? = some { dv with wire := dv.wire ++ p.mosi }

/-- R33, R46, R52, R55, R220, R222, R294, R467: what a step of the shifter leaves as it was: the lock, the latch, the
clients, caller memory, TIME, the parameters, XFER_IN_LEN, the demux pins, and every engine register but IN_BUF and
BUSY, and while BUSY stays 1 IN_BUF too; every device's descriptor, flag and session, and what a device that is not
selected has been sent. While software-driven chip-select is not asserted, as for the wake clocks (R294), no device is
sent a bit (R33, R467). -/
def Obligations.ShifterFrame : Prop :=
  ∀ s : State,
    (shifterStep s).lock = s.lock ∧ (shifterStep s).latch = s.latch ∧ (shifterStep s).clients = s.clients ∧
    (shifterStep s).mem = s.mem ∧ (shifterStep s).time = s.time ∧ (shifterStep s).cfg = s.cfg ∧
    (shifterStep s).xferInLen = s.xferInLen ∧ (shifterStep s).lines.demux = s.lines.demux ∧
    (shifterStep s).engine =
      { s.engine with inBuf := (shifterStep s).engine.inBuf, busy := (shifterStep s).engine.busy } ∧
    ((shifterStep s).engine.busy = true → (shifterStep s).engine.inBuf = s.engine.inBuf) ∧
    (s.lines.cs ≠ some .asserted → (∀ p, s.snap = some p → p.csMode = .software) →
      (shifterStep s).devices = s.devices) ∧
    ∀ (d : Nat) (dv : Device), s.devices[d]? = some dv →
      ∃ wire, (shifterStep s).devices[d]? = some { dv with wire := wire } ∧ (s.latch.dev ≠ some d → wire = dv.wire)

/-- R44, R161, R222: IN_BUF is written only at the end of a transaction with IN_LEN > 0, and only its first
ceil8(IN_LEN) bytes; no instruction and no pseudo-operation of a client writes it. A client's own call of a
pseudo-operation is the model's choice (log entry 17). -/
def Obligations.InputBufferKeepsItsRest : Prop :=
  (∀ (s : State) (p : Snap), s.snap = some p → p.Legal → s.engine.busy = true →
     ((shifterStep s).engine.inBuf ≠ s.engine.inBuf → (shifterStep s).engine.busy = false ∧ 0 < p.inLen) ∧
     ∀ k, ceil8 p.inLen ≤ k → (shifterStep s).engine.inBuf[k]? = s.engine.inBuf[k]?) ∧
  ∀ s t : State, clientLeads s t → t.engine.inBuf = s.engine.inBuf

/-- R33, R220, R221, R467: with hardware-timed chip-select the shifter asserts CS_LINE before the first event of a
transaction and deasserts it after the last (R221), so that after k events the device of CFG_DEV has been sent the
first k bits (derived from R33, R220 and R467; that the bits are recorded for CFG_DEV is log entry 15, DEDUCED); and a
transaction with no event leaves the line unchanged. With software-driven chip-select the shifter never changes it. -/
def Obligations.HardwareTimedChipSelect : Prop :=
  ∀ (s : State) (p : Snap), s.snap = some p →
    (p.csMode = .hardware → p.mosi = [] → (shifterStep s).lines.cs = s.lines.cs) ∧
    (p.csMode = .hardware → p.pos = 0 → 0 < p.mosi.length →
      (∀ k, 0 < k → k < p.mosi.length → (shifterRun k s).lines.cs = some .asserted) ∧
      (shifterRun p.mosi.length s).lines.cs = some .deasserted ∧
      ∀ k d dv, k ≤ p.mosi.length → s.latch.dev = some d → s.devices[d]? = some dv →
        (shifterRun k s).devices[d]? = some { dv with wire := dv.wire ++ p.mosi.take k }) ∧
    (p.csMode = .software → (shifterStep s).lines.cs = s.lines.cs)

/-! ### The order of bits and bytes -/

/-- R82, R87: the physical layout has the net effect of R82. A command and an address, stored as the physical registers
hold them and shifted out as the peripheral does, cross the wire in the device's bit order. -/
def Obligations.PhysicalLayoutHasTheWireOrder : Prop :=
  ∀ (bo : BitOrder) (len : Nat),
    (∀ v : BitVec 16, len ≤ 16 → shiftCommand len (physCommand len v bo) = fieldBits len v bo) ∧
    (∀ v : BitVec 32, len ≤ 32 → shiftAddress len (physAddress len v bo) = fieldBits len v bo)

/-- R82, R83, R85, R88: bytes sent in a bit order and sampled back in the same order are the same bytes. With a
byte-order flag of 0, which every transaction of the sequencer has, stream byte j is byte j of the buffer, and with a
flag of 1 stream byte 4g+i is byte 4g+3-i, on the way out and on the way in. What is stored changes no other byte of
the buffer. -/
def Obligations.BytesKeepTheirOrder : Prop :=
  (∀ (bo : BitOrder) (bs : List Byte), packBytes bo (bs.flatMap fun b => byteBits b bo) bs.length = bs) ∧
  (∀ (buf : List (Option Byte)) (n : Nat) (bs : List Byte),
     outStream buf false n = some bs ↔ bs.length = n ∧ ∀ j, j < n → buf[j]? = some bs[j]?) ∧
  (∀ (buf : List (Option Byte)) (bs : List Byte), bs.length ≤ buf.length →
     (∀ j, j < bs.length → (storeStream false 0 bs buf)[j]? = some bs[j]?) ∧
     ∀ j, bs.length ≤ j → (storeStream false 0 bs buf)[j]? = buf[j]?) ∧
  ((∀ (buf : List (Option Byte)) (n : Nat) (bs : List Byte), outStream buf true n = some bs ↔
     bs.length = n ∧ ∀ g i, i < 4 → 4 * g + i < n → buf[4 * g + 3 - i]? = some bs[4 * g + i]?) ∧
   (∀ (buf : List (Option Byte)) (bs : List Byte), buf.length = 64 → bs.length % 4 = 0 → bs.length ≤ 64 →
     (∀ g i, i < 4 → 4 * g + i < bs.length → (storeStream true 0 bs buf)[4 * g + 3 - i]? = some bs[4 * g + i]?) ∧
     ∀ j, bs.length ≤ j → (storeStream true 0 bs buf)[j]? = buf[j]?))

/-! ### The primitives of the sequencer -/

/-- R123, R124, R225, R260: the frame transaction of a command, from any state in which its client owns an idle bus
programmed MSB-first, puts the 48 bits of the frame on MOSI, and samples nothing. -/
def Obligations.FrameIsOnTheWire : Prop :=
  ∀ (s : State) (c : Nat) (cmd : Command) (cm : CsMode), s.owns c = true → s.engine.busy = false →
    s.latch.bitOrder = some .msbFirst → s.latch.csMode = some cm →
    ∃ t p, runOps c ((frameOps cmd).take 6) s = some t ∧ (frameOps cmd).drop 6 = [.wait] ∧
      t.snap = some p ∧ t.engine.busy = true ∧
      p.mosi = wireBits (frameBytes cmd.idx cmd.arg) ∧ p.driven = 48 ∧ p.inLen = 0 ∧ p.pos = 0

/-- R218, R251, R252, R294: reading n bytes clocks 8n ones and samples them all, and its last engine operation, once
the transaction is over, gives the first n bytes of IN_BUF, in order, and changes nothing; sending bytes clocks their
bits and samples nothing, and the wake transaction clocks 80 ones with chip-select deasserted. -/
def Obligations.TransfersOnTheWire : Prop :=
  ∀ (s : State) (c : Nat) (cm : CsMode), s.owns c = true → s.engine.busy = false →
    s.latch.bitOrder = some .msbFirst → s.latch.csMode = some cm →
    (∀ n, 1 ≤ n → n ≤ 64 → ∃ t p, runOps c ((xferIn n).take 3) s = some t ∧ (xferIn n).drop 3 = [.readTmp] ∧
      t.snap = some p ∧ p.mosi = List.replicate (8 * n) true ∧ p.inLen = 8 * n ∧ p.inBe = false) ∧
    (∀ bs : List Byte, s.xferInLen = some (8 * bs.length) →
      (∀ j, j < bs.length → s.engine.inBuf[j]? = some bs[j]?) → engineOp c .readTmp s = .done s (some bs)) ∧
    (∀ bs : List Byte, 1 ≤ bs.length → bs.length ≤ 64 →
      ∃ t p, runOps c ((xferOut bs).take 4) s = some t ∧ (xferOut bs).drop 4 = [.wait] ∧
        t.snap = some p ∧ p.mosi = wireBits bs ∧ p.inLen = 0) ∧
    (cm = .software → ∃ t p, runOps c (wakeOps.take 5) s = some t ∧ wakeOps.drop 5 = [.wait, .csAssert] ∧
      t.snap = some p ∧ p.mosi = List.replicate 80 true ∧ p.inLen = 0 ∧ t.lines.cs = some .deasserted)

/-- R131, R133, R260: a command row, at a command step of a program, begins the command with its index, argument and
response kind: TIME is read and the first byte of the not-busy poll is asked for. That a client may call a row by
itself, as the pseudo-operation of R161, is refused unless it owns an idle bus, and is given what the command ends
with, is the model's choice (log entry 17): the row then sends its command, or, where it is an application
command, CMD55 first (R132, R266), whose failure is IOError, and then its own frame; and the result is the status
and the extended response, or Timeout. -/
def Obligations.CommandRowsSendTheirCommand : Prop :=
  ∀ (i : Instr) (c : Command) (s : State), commandOf i = some c →
    let app : Bool := decide (c.idx = 23#6 ∨ c.idx = 41#6)
    (∀ x, s.awaits x .ready → exec i s = .next (s.polling { x with cmd := some c } (.pollBusy true) s.cfg.tBusy)) ∧
    (s.ctx = none → s.ready → app = false → exec i s =
      .next (s.polling { Ctx.start .pseudo none with cmd := some c } (.pollBusy true) s.cfg.tBusy)) ∧
    (s.ctx = none → s.ready → app = true → exec i s = .next
      (s.polling { Ctx.start .pseudoAppCmd none with cmd := some ⟨55, 0, .r1⟩ } (.pollBusy true) s.cfg.tBusy)) ∧
    (s.ctx = none → ¬ s.ready → ∃ r, exec i s = .refused r) ∧
    (∀ x r1, app = true → s.stands x .pseudoAppCmd (.done (.reply r1)) → exec i s =
      if r1.toNat ≤ 1 then .next (s.withCtx (x.goto .pseudo)) else .next (s.complete (.seq .ioError))) ∧
    (∀ x, app = true → s.stands x .pseudoAppCmd (.done .timeout) → exec i s = .next (s.complete (.seq .ioError))) ∧
    (∀ x r1, s.stands x .pseudo (.done (.reply r1)) → exec i s = .next (s.complete (.reply r1 x.ext))) ∧
    (∀ x, s.stands x .pseudo (.done .timeout) → exec i s = .next (s.complete (.seq .timeout)))

/-- R134, R253, R260, R262, R263, R270, R340: the byte 0xFF where a byte is read. It ends a not-busy wait, and lets the
command that waits send its frame; in the token wait it is Timeout exactly if the wait's deadline has passed, else
another byte is read; in the response window it is a gap, and Timeout at the 8th byte; in place of a data response it
is a rejection. -/
def Obligations.FillerByteRow : Prop :=
  ∀ (s : State) (x : Ctx),
    (∀ c, s.awaits x (.pollBusy true) → x.cmd = some c →
      exec .fillerNotBusy s = .next (s.withCtx { x with phase := .frame, micro := frameOps c })) ∧
    (s.awaits x (.pollBusy false) → exec .fillerNotBusy s = .next (s.withCtx { x with phase := .done .ok })) ∧
    (∀ t0 T, s.awaits x .pollToken → x.pollT0 = some t0 → x.limit = some T →
      exec .fillerNotBusy s = .next (s.now.2.withCtx
        (if s.now.1 - t0 ≥ T then { x with phase := .done .timeout } else { x with micro := xferIn 1 }))) ∧
    (∀ n, s.awaits x (.window n) → n < 8 →
      exec .fillerNotBusy s = .next (s.withCtx { x with phase := .window (n + 1), micro := xferIn 1 })) ∧
    (s.awaits x (.window 8) → exec .fillerNotBusy s = .next (s.withCtx { x with phase := .done .timeout })) ∧
    (s.awaits x .dataResponse → exec .fillerNotBusy s = .next (s.withCtx { x with phase := .done .rejected }))

/-- R127, R128, R129, R260, R262, R264: the response rows. A status byte in the response window is the command's r1, and
ext is UNDEF until 4 more bytes are in, which READ_OCR and SEND_IF_COND read whatever the status is. -/
def Obligations.ResponseRows : Prop :=
  ∀ (s : State) (x : Ctx) (c : Command) (st : BitVec 7), x.cmd = some c →
    (∀ n, s.awaits x (.window n) → c.kind = .r1 →
      exec (.r1Status st) s = .next (s.withCtx
        { x with r1 := some (0#1 ++ st), ext := none, phase := .done (.reply (0#1 ++ st)) })) ∧
    (∀ n, s.awaits x (.window n) → c.kind ≠ .r1 →
      exec (.r1Status st) s = .next (s.withCtx
        { x with r1 := some (0#1 ++ st), ext := none, phase := .extended, micro := xferIn 4 })) ∧
    (∀ o, s.awaits x .extended → c.kind = .r3 →
      exec (.r3StatusOcr st o) s = .next (s.withCtx
        { x with r1 := some (0#1 ++ st), ext := some o, phase := .done (.reply (0#1 ++ st)) })) ∧
    (∀ hi echo, s.awaits x .extended → c.kind = .r7 →
      exec (.r7StatusEcho st hi echo) s = .next (s.withCtx
        { x with r1 := some (0#1 ++ st), ext := some (hi ++ echo), phase := .done (.reply (0#1 ++ st)) }))

/-- R134, R136, R252, R270 to R272, R339, R347, R349: the tokens 0xFE, 0xFC and 0xFD, at a token step of a program, are
sent as one byte; read in the token wait, 0xFE ends it and the two others are IOError. The data-response rows end
the wait for a data response as accepted and as rejected. That a client which owns an idle bus may also call a token
row by itself, as the pseudo-operation xfer_out of that byte (R161), and is refused otherwise, is the model's choice
(log entry 17). -/
def Obligations.TokenAndDataResponseRows : Prop :=
  (∀ (i : Instr) (tok : Byte) (s : State), sentToken i = some tok →
     (∀ x, s.awaits x .ready →
       exec i s = .next (s.withCtx { x with phase := .group, micro := xferOut [tok] })) ∧
     (s.ctx = none → s.ready → exec i s = .next (s.withCtx
       { Ctx.start .pseudo none with phase := .group, micro := xferOut [tok] })) ∧
     (s.ctx = none → ¬ s.ready → ∃ r, exec i s = .refused r) ∧
     (∀ x, s.stands x .pseudo .group → exec i s = .next (s.complete .done)) ∧
     (∀ x, s.awaits x .pollToken → exec i s = .next (s.withCtx
       { x with phase := .done (if tok = 0xFE#8 then .ok else .ioError) }))) ∧
  (∀ (s : State) (x : Ctx), s.awaits x .dataResponse →
     (∀ hi, exec (.dataResponseAccepted hi) s = .next (s.withCtx { x with phase := .done .ok })) ∧
     (∀ hi n, exec (.dataResponseRejected hi n) s = .next (s.withCtx { x with phase := .done .rejected })))

/-- R127, R253, R260, R262 to R264, R270 to R272, R429: what a primitive does with what it reads, for every byte. The
not-busy wait ends at 0xFF even if its deadline T has passed, with Ok or, for a command, with the command's frame;
any other byte is Timeout exactly if TIME - t0 has reached T. The token wait ends with Ok at 0xFE and with IOError
at any byte other than 0xFF and 0xFE, both even if the deadline has passed, and 0xFF is Timeout exactly if TIME -
t0 has reached T. After the frame comes the response window, in which the first of at most 8 bytes with bit 7 = 0
is the status, and 8 bytes with bit 7 set are Timeout; a command of kind R3 or R7 reads 4 more bytes, most
significant first. A data response is accepted exactly at a low nibble 0b0101. -/
def Obligations.WaitsForTheCard : Prop :=
  (∀ (s : State) (x : Ctx) (b : Byte) (t0 T : Nat) (forCmd : Bool) (c : Command), s.awaits x (.pollBusy forCmd) →
     x.tmp = [b] → x.pollT0 = some t0 → x.limit = some T → (forCmd = true → x.cmd = some c) →
     primitiveStep s x =
       if b = 0xFF#8 then .next (s.withCtx
         (if forCmd then { x with phase := .frame, micro := frameOps c } else { x with phase := .done .ok }))
       else .next (s.now.2.withCtx
         (if s.now.1 - t0 ≥ T then { x with phase := .done .timeout } else { x with micro := xferIn 1 }))) ∧
  (∀ (s : State) (x : Ctx) (b : Byte) (t0 T : Nat), s.awaits x .pollToken → x.tmp = [b] → x.pollT0 = some t0 →
     x.limit = some T →
     primitiveStep s x =
       if b = 0xFE#8 then .next (s.withCtx { x with phase := .done .ok })
       else if b = 0xFF#8 then .next (s.now.2.withCtx
         (if s.now.1 - t0 ≥ T then { x with phase := .done .timeout } else { x with micro := xferIn 1 }))
       else .next (s.withCtx { x with phase := .done .ioError })) ∧
  (∀ (s : State) (x : Ctx), s.awaits x .frame →
     primitiveStep s x = .next (s.withCtx { x with phase := .window 1, micro := xferIn 1 })) ∧
  (∀ (s : State) (x : Ctx) (b : Byte) (n : Nat) (c : Command), s.awaits x (.window n) → x.tmp = [b] → n ≤ 8 →
     x.cmd = some c →
     primitiveStep s x = .next (s.withCtx
       (if b.getLsbD 7 = false then
          (if c.kind = .r1 then { x with r1 := some b, ext := none, phase := .done (.reply b) }
           else { x with r1 := some b, ext := none, phase := .extended, micro := xferIn 4 })
        else if n < 8 then { x with phase := .window (n + 1), micro := xferIn 1 }
        else { x with phase := .done .timeout }))) ∧
  (∀ (s : State) (x : Ctx) (r1 b0 b1 b2 b3 : Byte) (c : Command), s.awaits x .extended → x.tmp = [b0, b1, b2, b3] →
     x.r1 = some r1 → r1.getLsbD 7 = false → x.cmd = some c → c.kind ≠ .r1 →
     primitiveStep s x = .next (s.withCtx
       { x with ext := some (b0 ++ b1 ++ b2 ++ b3), phase := .done (.reply r1) })) ∧
  (∀ (s : State) (x : Ctx) (b : Byte), s.awaits x .dataResponse → x.tmp = [b] →
     primitiveStep s x = .next (s.withCtx
       { x with phase := .done (if b &&& 0x0F#8 = 0x05#8 then .ok else .rejected) }))

/-- R161, R251 to R253, R260, R266, R270: the pseudo-operations. The spec gives them no encoding and defines each as
a primitive; that a client may ask for one, that it is refused unless the client owns an idle bus, and which result
it is given are the model's choice (log entry 17). xfer_in takes 1 to 64 bytes and gives those it read, xfer_out takes
1 to 64; the waits take their deadline and give Ok, Timeout or, for the token, IOError; send_cmd takes an index below
64 and gives the status and the extended response, or Timeout; acmd sends CMD55 first, and a CMD55 that fails is
IOError. In between a step is the next engine operation, or what the primitive does with its bytes. -/
def Obligations.PseudoOperations : Prop :=
  (∀ (s : State) (n idx : Nat) (bs : List Byte) (arg : BitVec 32) (kind : RespKind),
     (n = 0 ∨ 64 < n → execPseudo (.xferIn n) s = .refused .range) ∧
     (bs = [] ∨ 64 < bs.length → execPseudo (.xferOut bs) s = .refused .range) ∧
     (64 ≤ idx → execPseudo (.sendCmd idx arg kind) s = .refused .range ∧
       execPseudo (.acmd idx arg kind) s = .refused .range)) ∧
  (∀ (s : State) (op : PseudoOp), s.ctx = none → ¬ s.ready → ∃ r, execPseudo op s = .refused r) ∧
  (∀ (s : State) (n idx T : Nat) (bs : List Byte) (arg : BitVec 32) (kind : RespKind), s.ctx = none → s.ready →
     let x := Ctx.start .pseudo none
     let reset := s.withEngine s.engine.cleared
     (1 ≤ n → n ≤ 64 → execPseudo (.xferIn n) s =
       .next (reset.withCtx { x with phase := .group, micro := (xferIn n).drop 1 })) ∧
     (1 ≤ bs.length → bs.length ≤ 64 → execPseudo (.xferOut bs) s =
       .next (reset.withCtx { x with phase := .group, micro := (xferOut bs).drop 1 })) ∧
     execPseudo (.waitNotBusy T) s = .next (s.polling x (.pollBusy false) T) ∧
     execPseudo (.waitToken T) s = .next (s.polling x .pollToken T) ∧
     (idx < 64 → execPseudo (.sendCmd idx arg kind) s = .next
       (s.polling { x with cmd := some ⟨BitVec.ofNat 6 idx, arg, kind⟩ } (.pollBusy true) s.cfg.tBusy)) ∧
     (idx < 64 → execPseudo (.acmd idx arg kind) s = .next
       (s.polling { x with pc := .pseudoAppCmd, cmd := some ⟨55, 0, .r1⟩ } (.pollBusy true) s.cfg.tBusy))) ∧
  (∀ (s : State) (x : Ctx) (n idx T : Nat) (r1 : Byte) (bs : List Byte) (arg : BitVec 32) (kind : RespKind),
     1 ≤ n → n ≤ 64 → 1 ≤ bs.length → bs.length ≤ 64 → idx < 64 →
     (s.stands x .pseudo (.done .ok) → execPseudo (.xferIn n) s = .next (s.complete (.bytes x.tmp)) ∧
       execPseudo (.xferOut bs) s = .next (s.complete .done) ∧
       execPseudo (.waitNotBusy T) s = .next (s.complete (.seq .ok)) ∧
       execPseudo (.waitToken T) s = .next (s.complete (.seq .ok))) ∧
     (s.stands x .pseudo (.done .timeout) → execPseudo (.waitNotBusy T) s = .next (s.complete (.seq .timeout)) ∧
       execPseudo (.waitToken T) s = .next (s.complete (.seq .timeout)) ∧
       execPseudo (.sendCmd idx arg kind) s = .next (s.complete (.seq .timeout)) ∧
       execPseudo (.acmd idx arg kind) s = .next (s.complete (.seq .timeout))) ∧
     (s.stands x .pseudo (.done .ioError) → execPseudo (.waitToken T) s = .next (s.complete (.seq .ioError))) ∧
     (s.stands x .pseudo (.done (.reply r1)) →
       execPseudo (.sendCmd idx arg kind) s = .next (s.complete (.reply r1 x.ext)) ∧
       execPseudo (.acmd idx arg kind) s = .next (s.complete (.reply r1 x.ext))) ∧
     (s.stands x .pseudoAppCmd (.done (.reply r1)) → execPseudo (.acmd idx arg kind) s =
       if r1.toNat ≤ 1 then .next (s.withCtx (x.goto .pseudo)) else .next (s.complete (.seq .ioError))) ∧
     (s.stands x .pseudoAppCmd (.done .timeout) →
       execPseudo (.acmd idx arg kind) s = .next (s.complete (.seq .ioError))) ∧
     (s.stands x .pseudo .ready → execPseudo (.acmd idx arg kind) s = .next
       (s.polling { x with cmd := some ⟨BitVec.ofNat 6 idx, arg, kind⟩ } (.pollBusy true) s.cfg.tBusy))) ∧
  (∀ (s : State) (op : PseudoOp) (x : Ctx), op.inRange = true → s.ctx = some x →
     x.pc = .pseudo ∨ (x.pc = .pseudoAppCmd ∧ op.isAcmd = true) →
     (∀ e rest, x.micro = e :: rest → execPseudo op s = runMicro s x e rest) ∧
     (x.micro = [] → x.phase ≠ .ready → (∀ r, x.phase ≠ .done r) → execPseudo op s = primitiveStep s x))

/-! ### Sequencer operations -/

/-- R51, R200, R202, R275, R290, R291, R330, R338: the first step of every sequencer operation, and of every
block-device operation that maps to one, takes the bus for its device, with the operation's context begun; while
the bus is owned it waits, as acquire does; while a transaction is in flight the owner's call is refused, and another
client's is refused or waits as a constant without a value has it (log entry 11). Before bus_init, for
a device that does not exist, and for a count of 0, it is refused. With the bus taken, an operation on a device that
is not MSB-first, software-driven and mode 0 is refused; on one that is, an initialization sets the handshake clock
and every other operation asserts chip-select. -/
def Obligations.OperationsTakeTheBus : Prop :=
  (∀ (i : Instr) (s : State) (d : Nat) (x : Ctx), sequencerStart i = some (d, x) → s.ctx = none →
     (s.lock.ready = false → exec i s = .refused .noLock) ∧
     (s.lock.ready = true → s.devices.length ≤ d → delivered i = some Result.seq → exec i s = .refused .range) ∧
     ∀ dv, s.lock.ready = true → s.devices[d]? = some dv →
       (s.lock.owner = none → exec i s = .next ((grant s.cur d dv s).withCtx { x with micro := [] })) ∧
       (∀ o, s.lock.owner = some o →
         let waiting := .next
           ((s.withLock { s.lock with waiters := insertWaiter (s.cur, d) s.lock.waiters }).withCtx x)
         (s.engine.busy = false → exec i s = waiting) ∧
         (s.engine.busy = true → o ≠ s.cur → (s.cur, d) ∉ s.lock.waiters → exec i s =
           if Config.busyAcquireWaits then waiting else .refused .busy)) ∧
       (∀ o, s.lock.owner = some o → o ≠ s.cur → (s.cur, d) ∈ s.lock.waiters → exec i s = .next
         ((s.withLock { s.lock with waiters := insertWaiter (s.cur, d) s.lock.waiters }).withCtx x)) ∧
       (s.lock.owner = some s.cur → s.engine.busy = true → exec i s = .refused .busy)) ∧
  (∀ (s : State) (d first buf : Nat), exec (.sdRead d first 0 buf) s = .refused .countZero ∧
     exec (.sdWrite d first 0 buf) s = .refused .countZero ∧
     (d < s.devices.length → exec (.upRead d first 0 buf) s = .refused .countZero ∧
       exec (.upWrite d first 0 buf) s = .refused .countZero)) ∧
  (∀ (i : Instr) (s : State) (d : Nat) (x0 x : Ctx) (dv : Device), sequencerStart i = some (d, x0) →
     s.devices[d]? = some dv → s.awaits x (.done .ok) → x.pc = x0.pc →
     (dv.sdUsable = false → exec i s = .refused .notSdDevice) ∧
     (dv.sdUsable = true → exec i s = .next (s.withCtx
       { x with
         pc := if initializes i then .i0Clear else .beginCs
         phase := .group
         micro := if initializes i then [.setClock s.cfg.handshakeClock] else [.csAssert] })))

/-- R31, R59, R491: inside a sequencer operation a step of its client is the next engine operation of its primitive: its
effect happens and the operations behind it are left; one that blocks stays first; one that is refused is refused.
So the client's steps do one after the other what a run of engine operations (runOps) does. With none left, the
step is what the primitive does with what it has read; that this is a step of its own, and not part of the engine
operation before it, is the model's reading of R31 and R491 (log entry 8, DEDUCED). -/
def Obligations.OperationsRunTheirPrimitives : Prop :=
  (∀ (i : Instr) (s : State) (d : Nat) (x0 x : Ctx) (dv : Device), sequencerStart i = some (d, x0) →
    s.devices[d]? = some dv → s.ctx = some x →
    (∀ op rest, x.micro = op :: rest →
      (∀ t bytes, engineOp s.cur op s = .done t bytes →
        exec i s = .next (t.withCtx { x with micro := rest, tmp := bytes.getD x.tmp })) ∧
      (∀ t, engineOp s.cur op s = .blocked t → exec i s = .next (t.withCtx x)) ∧
      (∀ r, engineOp s.cur op s = .refuse r → exec i s = .refused r)) ∧
    (x.micro = [] → x.phase = .group → exec i s = .next (s.withCtx { x with phase := .done .ok })) ∧
    (x.micro = [] → x.phase ≠ .ready → (∀ r, x.phase ≠ .done r) → exec i s = primitiveStep s x)) ∧
  (∀ (i : Instr) (s t : State) (d : Nat) (x0 x : Ctx) (dv : Device) (ops rest : List EngineOp),
    sequencerStart i = some (d, x0) → s.devices[d]? = some dv → s.ctx = some x → x.micro = ops ++ rest →
    runOps s.cur ops s = some t →
    ∃ tmp, execRun ops.length i s = some (t.withCtx { x with micro := rest, tmp := tmp }))

/-- R60, R401 to R404, R420 to R422: at its end an operation delivers exactly one result to its client, and its
context is gone. sd operations deliver Ok, Timeout or IOError, and no operation ends with CRCError: in a state of the
invariant OperationsHoldTheBus is about, none leaves with it (R420, R422); initialize ready or not-ready; read and
write ok or io-error; block_count the capacity of the CSD it has read, and 0 on failure. -/
def Obligations.OperationsDeliverTheirResult : Prop :=
  (∀ (i : Instr) (f : Res → Result) (s : State) (d : Nat) (x0 x : Ctx) (dv : Device) (res : Res),
    delivered i = some f → sequencerStart i = some (d, x0) → s.devices[d]? = some dv →
    s.awaits x (.done .ok) → x.pc = .leaving res → exec i s = .next (s.complete (f res))) ∧
  (∀ (s : State) (u : Nat) (x : Ctx) (dv : Device) (res : Res), s.devices[u]? = some dv → s.awaits x (.done .ok) →
    x.pc = .leaving res →
    (res ≠ .ok → exec (.blockCount u) s = .next (s.complete (.number 0#32))) ∧
    (∀ n, res = .ok → csdCapacity x.image.reverse = some n →
      exec (.blockCount u) s = .next (s.complete (.number n))) ∧
    (res = .ok → csdCapacity x.image.reverse = none →
      exec (.blockCount u) s = .next (s.drawCapacity.2.complete (.number s.drawCapacity.1)))) ∧
  (∀ (s : State) (c : Nat) (cl : Client) (x : Ctx) (res : Res), HoldsBus s → s.clients[c]? = some cl →
    cl.ctx = some x → x.pc = .leaving res → res = .ok ∨ res = .timeout ∨ res = .ioError)

/-- R265, R331, R334, R339, R346, R355, R370, R371: at a command step whose status must be 0x00, any other status ends
the operation in IOError and a Timeout of the command ends it in Timeout: it deasserts chip-select and releases the
bus. -/
def Obligations.RejectedCommandsEndInIOError : Prop :=
  ∀ (i : Instr) (s : State) (d : Nat) (x0 x : Ctx) (dv : Device), sequencerStart i = some (d, x0) →
    s.devices[d]? = some dv → x.pc ∈ commandSteps i →
    (∀ r1, s.awaits x (.done (.reply r1)) → r1 ≠ 0x00#8 → ∃ x', exec i s = .next (s.withCtx x') ∧
      x'.pc = .leaving .ioError ∧ x'.phase = .group ∧ x'.micro = [.csDeassert, .release]) ∧
    (s.awaits x (.done .timeout) → ∃ x', exec i s = .next (s.withCtx x') ∧
      x'.pc = .leaving .timeout ∧ x'.phase = .group ∧ x'.micro = [.csDeassert, .release])

/-- R275, R309, R310, R426: the exits leave a clean bus: chip-select deasserted and the bus free, and after an
initialization the caller's clock word in the latch; they cannot fail. -/
def Obligations.ExitsLeaveACleanBus : Prop :=
  ∀ (s : State) (c : Nat) (dv : Device), s.owns c = true → s.engine.busy = false → s.latch.csMode = some .software →
    runOps c endOps s = some ((s.withCs .deasserted).withLock { s.lock with owner := none }) ∧
    runOps c (exitOps dv) s =
      some (((s.withLatch { s.latch with clock := some dv.clock }).withCs .deasserted).withLock
        { s.lock with owner := none })

/-! ### Initialization -/

/-- R291, R294 to R298: the probe of an initialization. I0 clears the flag and the session. I1 gives the wake clocks.
I2 sends GO_IDLE_STATE, and only the status 0x01 goes on. I3 sends SEND_IF_COND: 0x05 makes the card SD-v1, 0x01 with
the echo 0x1AA makes it SD-v2, and everything else is IOError. A Timeout of either command is Timeout. -/
def Obligations.ProbeClassifies : Prop :=
  ∀ (i : Instr) (s : State) (d : Nat) (x : Ctx) (dv : Device) (r1 : Byte) (e : BitVec 32), initialization i d →
    s.devices[d]? = some dv →
    (s.stands x .i0Clear (.done .ok) → exec i s =
      .next (((s.withHc d false).withSession d .uninitialized).withCtx (x.goto .i1Wake))) ∧
    (s.stands x .i1Wake .ready → exec i s = .next (s.withCtx { x with phase := .group, micro := wakeOps })) ∧
    (s.stands x .i1Wake (.done .ok) → exec i s = .next (s.withCtx (x.goto .i2GoIdleState))) ∧
    (s.stands x .i2GoIdleState .ready → exec i s = exec .cmd0GoIdleState s) ∧
    (s.stands x .i2GoIdleState (.done (.reply r1)) → exec i s =
      .next (s.withCtx (x.goto (if r1 = 0x01#8 then .i3SendIfCond else .iFail .ioError)))) ∧
    (s.stands x .i2GoIdleState (.done .timeout) → exec i s = .next (s.withCtx (x.goto (.iFail .timeout)))) ∧
    (s.stands x .i3SendIfCond .ready → exec i s = exec .cmd8SendIfCond s) ∧
    (s.stands x .i3SendIfCond (.done (.reply r1)) → x.ext = some e → exec i s =
      .next (s.withCtx
        (if r1 = 0x05#8 then { x with cand := some .sdV1 }.goto .i4BringUp
         else if r1 = 0x01#8 ∧ e.extractLsb' 0 12 = 0x1AA#12 then { x with cand := some .sdV2 }.goto .i4BringUp
         else x.goto (.iFail .ioError)))) ∧
    (s.stands x .i3SendIfCond (.done .timeout) → exec i s = .next (s.withCtx (x.goto (.iFail .timeout))))

/-- R266, R299 to R302: the bring-up loop. It begins with t0, first = 1 and the application command 41, whose argument
has the high-capacity-support bit for an SD-v2 card and is 0 for an SD-v1 card; an attempt sends CMD55 and that
command, or CMD1 for an MMC card. A status 0x00 of an attempt ends the loop and 0x01 keeps it going; a status above 1,
of CMD55 or of the application command, switches an SD-v1 candidate to MMC on the first attempt and is IOError
otherwise; a Timeout of CMD55 is IOError and of the attempt Timeout; and after an attempt that does not end the loop
it is Timeout exactly if TIME - t0 has reached T_INIT. -/
def Obligations.BringUpLoop : Prop :=
  ∀ (i : Instr) (s : State) (d : Nat) (x : Ctx) (dv : Device) (r1 : Byte), initialization i d →
    s.devices[d]? = some dv →
    let toMmc := { x with cand := some .mmc, app := some false }.goto .i4Deadline
    (s.stands x .i4BringUp .ready → exec i s = .next (s.now.2.withCtx ({ x with
      t0 := some s.now.1
      first := some true
      app := some true
      cmdIdx := some 41
      cmdArg := some (if x.cand = some Card.sdV2 then 0x40000000#32 else 0#32) }.goto .i4AppCmd))) ∧
    (s.stands x .i4AppCmd .ready → exec i s = exec .cmd55AppCmd s) ∧
    (s.stands x .i4SendOpCond .ready → x.cmdIdx = some 41#6 →
      (x.cmdArg = some 0x40000000#32 → exec i s = exec .acmd41SdV2Hcs s) ∧
      (x.cmdArg = some 0#32 → exec i s = exec .acmd41SdV1 s)) ∧
    (s.stands x .i4Legacy .ready → exec i s = exec .cmd1SendOpCond s) ∧
    (s.stands x .i4SendOpCond (.done (.reply r1)) ∨ s.stands x .i4Legacy (.done (.reply r1)) → exec i s =
      .next (s.withCtx
        (if r1 = 0x00#8 then x.goto .i5ReadOcr
         else if r1 = 0x01#8 then x.goto .i4Deadline
         else if x.app = some true ∧ x.cand = some .sdV1 ∧ x.first = some true then toMmc
         else x.goto (.iFail .ioError)))) ∧
    (s.stands x .i4AppCmd (.done (.reply r1)) → exec i s =
      .next (s.withCtx
        (if r1.toNat ≤ 1 then x.goto .i4SendOpCond
         else if x.cand = some .sdV1 ∧ x.first = some true then toMmc
         else x.goto (.iFail .ioError)))) ∧
    (s.stands x .i4AppCmd (.done .timeout) → exec i s = .next (s.withCtx (x.goto (.iFail .ioError)))) ∧
    (s.stands x .i4SendOpCond (.done .timeout) ∨ s.stands x .i4Legacy (.done .timeout) → exec i s =
      .next (s.withCtx (x.goto (.iFail .timeout)))) ∧
    (∀ t0, s.stands x .i4Deadline .ready → x.t0 = some t0 → exec i s =
      .next (s.now.2.withCtx ({ x with first := some false }.goto
        (if s.now.1 - t0 ≥ s.cfg.tInit then .iFail .timeout
         else if x.app = some true then .i4AppCmd else .i4Legacy))))

/-- R128, R305, R307, R309, R310: READ_OCR, sent to an SD-v2 card alone, with status 0x00 sets the flag and the type SDHC
exactly when OCR bits 31 and 30 are both 1; SET_BLOCKLEN is sent to a card without the flag; of both commands any other
status is IOError and a Timeout is Timeout. The success exit writes READY with the type and the failure exit FAILED
with the error, and both restore the clock, deassert chip-select and release the bus. -/
def Obligations.InitializationWritesItsOutcome : Prop :=
  ∀ (i : Instr) (s : State) (d : Nat) (x : Ctx) (dv : Device) (r1 : Byte), initialization i d →
    s.devices[d]? = some dv →
    let fails (e : ErrKind) := Host.Outcome.next (s.withCtx (x.goto (.iFail e)))
    let exits (r : Res) := { x with
      pc := .leaving r, phase := .group, micro := [.setClock dv.clock, .csDeassert, .release] }
    (s.stands x .i5ReadOcr .ready → exec i s =
      if x.cand = some .sdV2 then exec .cmd58ReadOcr s else .next (s.withCtx (x.goto .i6SetBlocklen))) ∧
    (∀ ocr, s.stands x .i5ReadOcr (.done (.reply 0x00#8)) → x.ext = some ocr → exec i s =
      .next (if ocr.getLsbD 31 = true ∧ ocr.getLsbD 30 = true
        then (s.withHc d true).withCtx ({ x with cand := some .sdhc }.goto .i6SetBlocklen)
        else s.withCtx (x.goto .i6SetBlocklen))) ∧
    (s.stands x .i6SetBlocklen .ready → exec i s =
      if dv.hc then .next (s.withCtx (x.goto .i7Ready)) else exec .cmd16SetBlocklen s) ∧
    (s.stands x .i6SetBlocklen (.done (.reply 0x00#8)) → exec i s = .next (s.withCtx (x.goto .i7Ready))) ∧
    (s.stands x .i5ReadOcr (.done (.reply r1)) ∨ s.stands x .i6SetBlocklen (.done (.reply r1)) → r1 ≠ 0x00#8 →
      exec i s = fails .ioError) ∧
    (s.stands x .i5ReadOcr (.done .timeout) ∨ s.stands x .i6SetBlocklen (.done .timeout) → exec i s = fails .timeout) ∧
    (∀ card, s.stands x .i7Ready .ready → x.cand = some card → exec i s =
      .next ((s.withSession d (.ready card)).withCtx (exits .ok))) ∧
    (∀ e : ErrKind, s.stands x (.iFail e) .ready → exec i s =
      .next ((s.withSession d (.failed e)).withCtx (exits e.res)))

/-! ### Block reads and writes, erase, registers -/

/-- R91, R92, R331, R339, R346, R355: a block number as a command's argument. With the high-capacity flag it is the
number itself, below 2^32; without it the byte offset 512 times the number, for the numbers below 2^23; any other
number is refused. At every step of a read, a write or an erase that sends a block number, the command has that
argument, with the flag as it stands at that step, or the operation is refused. -/
def Obligations.BlockNumbersBecomeAddresses : Prop :=
  (∀ n, (cardAddr true n).isSome = true ↔ n < 2 ^ 32) ∧ (∀ n, (cardAddr false n).isSome = true ↔ n < 2 ^ 23) ∧
  (∀ n a, cardAddr true n = some a → a.toNat = n) ∧ (∀ n a, cardAddr false n = some a → a.toNat = 512 * n) ∧
  (∀ (i : Instr) (pc : SeqPc) (n : Nat) (send : BitVec 32 → Instr) (s : State) (x x0 : Ctx) (d : Nat) (dv : Device),
    addressed i pc = some (n, send) → sequencerStart i = some (d, x0) → s.devices[d]? = some dv →
    s.stands x pc .ready →
    (cardAddr dv.hc n = none → exec i s = .refused .addrRange) ∧
    (∀ a, cardAddr dv.hc n = some a → exec i s = exec (send a) s))

/-- R266, R338, R339, R345 to R349: a write of one block begins with WRITE_BLOCK. A write of several announces its block
count first, unless the session's type is MMC: CMD55, of which a status above 1 and a Timeout are IOError, then ACMD23;
then comes WRITE_MULTIPLE_BLOCK. After each accepted block, and after the stop token, it waits until the card is not
busy. A rejected data response or a card that stays busy after a block sends no further block: STOP_TRANSMISSION is
sent, its outcome is ignored, and the operation ends with the block's error; after the last block the stop token
follows, and the last wait's outcome is the operation's. -/
def Obligations.WritesAnnounceAndAbort : Prop :=
  ∀ (i : Instr) (s : State) (x : Ctx) (d first count buf : Nat) (dv : Device) (r1 : Byte),
    writesBlocks i d first count buf → 0 < count → s.devices[d]? = some dv →
    (s.stands x .beginCs (.done .ok) → exec i s = .next (s.withCtx (x.goto
      (if count = 1 then .wrCommand else if dv.session = .ready Card.mmc then .mwCommand else .mwAppCmd)))) ∧
    (∀ a, cardAddr dv.hc first = some a →
      (s.stands x .wrCommand .ready → exec i s = exec (.cmd24WriteBlock a) s) ∧
      (s.stands x .mwCommand .ready → exec i s = exec (.cmd25WriteMultipleBlock a) s)) ∧
    (s.stands x .wrCommand (.done (.reply 0x00#8)) → exec i s = .next (s.withCtx (x.goto .wrToken))) ∧
    (s.stands x .mwAppCmd .ready → exec i s = exec .cmd55AppCmd s) ∧
    (s.stands x .mwAppCmd (.done (.reply r1)) → exec i s = .next (s.withCtx
      (if r1.toNat ≤ 1 then x.goto .mwEraseCount else x.exits .ioError))) ∧
    (s.stands x .mwAppCmd (.done .timeout) → exec i s = .next (s.withCtx (x.exits .ioError))) ∧
    (s.stands x .mwEraseCount .ready → exec i s = exec (.acmd23SetWrBlkEraseCount (BitVec.ofNat 32 count)) s) ∧
    (s.stands x .mwEraseCount (.done (.reply 0x00#8)) → exec i s = .next (s.withCtx (x.goto .mwCommand))) ∧
    (s.stands x .mwCommand (.done (.reply 0x00#8)) → exec i s =
      .next (s.withCtx ({ x with k := some 0 }.goto .mwToken))) ∧
    (s.stands x .mwResponse (.done .ok) → exec i s = .next (s.withCtx (x.goto .mwBusy))) ∧
    (s.stands x .mwResponse (.done .rejected) → exec i s = .next (s.withCtx (x.goto (.mwAbort .ioError)))) ∧
    (s.stands x .mwBusy .ready ∨ s.stands x .mwFinal .ready → exec i s =
      .next (s.polling x (.pollBusy false) s.cfg.tBusy)) ∧
    (∀ k, s.stands x .mwBusy (.done .ok) → x.k = some k → exec i s = .next (s.withCtx
      ({ x with k := some (k + 1) }.goto (if k + 1 < count then .mwToken else .mwStopToken)))) ∧
    (s.stands x .mwBusy (.done .timeout) → exec i s = .next (s.withCtx (x.goto (.mwAbort .timeout)))) ∧
    (s.stands x .mwStopToken (.done .ok) → exec i s = .next (s.withCtx (x.goto .mwFinal))) ∧
    (s.stands x .mwFinal (.done .ok) → exec i s = .next (s.withCtx (x.exits .ok))) ∧
    (s.stands x .mwFinal (.done .timeout) → exec i s = .next (s.withCtx (x.exits .timeout))) ∧
    (∀ e : ErrKind, (s.stands x (.mwAbort e) .ready → exec i s = exec .cmd12StopTransmission s) ∧
      (s.stands x (.mwAbort e) (.done (.reply r1)) ∨ s.stands x (.mwAbort e) (.done .timeout) → exec i s =
        .next (s.withCtx (x.exits e.res))))

/-- R255, R330 to R335: a block read. After its accepted command each block is waited for with the token wait of T_IO,
whose Timeout and IOError end the operation so; its 512 bytes go to its place in the buffer in chunks of at most 64
bytes, each stored at its offset, unless another client's operation owns that place (R99), which is refused; its CRC
trailer of 2 bytes is read and dropped. Then comes the next block, or STOP_TRANSMISSION after the last of several,
whose status 0x00 ends the operation in Ok, or, after a single one, the end of the operation. -/
def Obligations.ReadsFillTheBuffer : Prop :=
  (∀ (i : Instr) (s : State) (x : Ctx) (d first count buf : Nat) (dv : Device),
     readsBlocks i d first count buf → 0 < count → s.devices[d]? = some dv →
     (s.stands x .beginCs (.done .ok) → exec i s = .next (s.withCtx (x.goto .rdCommand))) ∧
     (∀ a, s.stands x .rdCommand .ready → cardAddr dv.hc first = some a → exec i s =
       exec (if count = 1 then .cmd17ReadSingleBlock a else .cmd18ReadMultipleBlock a) s) ∧
     (s.stands x .rdCommand (.done (.reply 0x00#8)) → exec i s =
       .next (s.withCtx ({ x with k := some 0 }.goto .rdToken))) ∧
     (s.stands x .rdToken .ready → exec i s = .next (s.polling x .pollToken s.cfg.tIo)) ∧
     (s.stands x .rdToken (.done .ok) → exec i s = .next (s.withCtx (x.goto .rdData))) ∧
     (s.stands x .rdToken (.done .timeout) → exec i s = .next (s.withCtx (x.exits .timeout))) ∧
     (s.stands x .rdToken (.done .ioError) → exec i s = .next (s.withCtx (x.exits .ioError))) ∧
     (∀ k, s.stands x .rdData .ready → x.k = some k → exec i s = .next (s.withCtx
       { x with phase := .streamIn (.memory (buf + 512 * k)) 0 512, micro := xferIn 64 })) ∧
     (s.stands x .rdData (.done .ok) → exec i s = .next (s.withCtx (x.goto .rdTrailer))) ∧
     (s.stands x .rdTrailer .ready → exec i s = .next (s.withCtx
       { x with phase := .streamIn .scratch 0 2, micro := xferIn 2 })) ∧
     (∀ k, s.stands x .rdTrailer (.done .ok) → x.k = some k → exec i s = .next (s.withCtx
       (if k + 1 < count then { x with k := some (k + 1) }.goto .rdToken
        else if 1 < count then { x with k := some (k + 1) }.goto .rdStop
        else { x with k := some (k + 1) }.exits .ok))) ∧
     (s.stands x .rdStop .ready → exec i s = exec .cmd12StopTransmission s) ∧
     (s.stands x .rdStop (.done (.reply 0x00#8)) → exec i s = .next (s.withCtx (x.exits .ok)))) ∧
  (∀ (s : State) (x : Ctx) (dst : Dest) (off left : Nat), s.awaits x (.streamIn dst off left) → x.tmp ≠ [] →
     x.tmp.length ≤ left →
     let y := if left = x.tmp.length then { x with phase := .done .ok }
       else { x with
         phase := .streamIn dst (off + x.tmp.length) (left - x.tmp.length)
         micro := xferIn (min 64 (left - x.tmp.length)) }
     (dst = .scratch → primitiveStep s x = .next (s.withCtx y)) ∧
     ∀ base, dst = .memory base →
       (ownedByOther s.cur (base + off) x.tmp.length 0 s.clients = false → primitiveStep s x =
         .next ((s.withMem (Memory.writeBytes s.mem (base + off) x.tmp)).withCtx y)) ∧
       (ownedByOther s.cur (base + off) x.tmp.length 0 s.clients = true →
         primitiveStep s x = .refused .bufferOwned))

/-- R256, R339, R347, R349: a write sends its packets. At the token step it sends 0xFE, or 0xFC for a block of several
and 0xFD after the last of them; then the block's 512 bytes from its place in the buffer in chunks of at most 64
bytes, then two bytes 0xFF, and then it reads one byte, the data response, which ends a single write. A place in the
buffer that another client's operation owns (R99) is refused. -/
def Obligations.WritesSendTheBuffer : Prop :=
  (∀ (i : Instr) (s : State) (x : Ctx) (d first count buf : Nat) (dv : Device),
     writesBlocks i d first count buf → 0 < count → s.devices[d]? = some dv →
     (s.stands x .wrToken .ready → exec i s = exec .dataStartToken s) ∧
     (s.stands x .wrToken (.done .ok) → exec i s = .next (s.withCtx (x.goto .wrData))) ∧
     (∀ bs, s.stands x .wrData .ready → s.readBuffer buf 64 = some bs → exec i s = .next (s.withCtx
       { x with phase := .streamOut buf 64 448, micro := xferOut bs })) ∧
     (s.stands x .wrData .ready → ownedByOther s.cur buf 64 0 s.clients = true → exec i s = .refused .bufferOwned) ∧
     (s.stands x .wrData (.done .ok) → exec i s = .next (s.withCtx (x.goto .wrTrailer))) ∧
     (s.stands x .wrTrailer (.done .ok) → exec i s = .next (s.withCtx (x.goto .wrResponse))) ∧
     (s.stands x .wrResponse (.done .ok) → exec i s = .next (s.withCtx (x.exits .ok))) ∧
     (s.stands x .wrResponse (.done .rejected) → exec i s = .next (s.withCtx (x.exits .ioError))) ∧
     (s.stands x .mwToken .ready → exec i s = exec .multiBlockWriteStartToken s) ∧
     (s.stands x .mwToken (.done .ok) → exec i s = .next (s.withCtx (x.goto .mwData))) ∧
     (∀ k, s.stands x .mwData .ready → x.k = some k →
       (∀ bs, s.readBuffer (buf + 512 * k) 64 = some bs → exec i s = .next (s.withCtx
         { x with phase := .streamOut (buf + 512 * k) 64 448, micro := xferOut bs })) ∧
       (ownedByOther s.cur (buf + 512 * k) 64 0 s.clients = true → exec i s = .refused .bufferOwned)) ∧
     (s.stands x .mwData (.done .ok) → exec i s = .next (s.withCtx (x.goto .mwTrailer))) ∧
     (s.stands x .mwTrailer (.done .ok) → exec i s = .next (s.withCtx (x.goto .mwResponse))) ∧
     (s.stands x .mwStopToken .ready → exec i s = exec .multiBlockStopToken s) ∧
     (s.stands x .wrTrailer .ready ∨ s.stands x .mwTrailer .ready → exec i s = .next (s.withCtx
       { x with phase := .group, micro := xferOut [0xFF#8, 0xFF#8] })) ∧
     (s.stands x .wrResponse .ready ∨ s.stands x .mwResponse .ready → exec i s = .next (s.withCtx
       { x with phase := .dataResponse, micro := xferIn 1 }))) ∧
  (∀ (s : State) (x : Ctx) (base off left : Nat), s.awaits x (.streamOut base off left) →
     (left = 0 → primitiveStep s x = .next (s.withCtx { x with phase := .done .ok })) ∧
     (∀ bs, 0 < left → s.readBuffer (base + off) (min 64 left) = some bs → primitiveStep s x = .next (s.withCtx
       { x with
         phase := .streamOut base (off + min 64 left) (left - min 64 left)
         micro := xferOut bs })) ∧
     (0 < left → ownedByOther s.cur (base + off) (min 64 left) 0 s.clients = true →
       primitiveStep s x = .refused .bufferOwned)) ∧
  (∀ (s : State) (base n : Nat), ownedByOther s.cur base n 0 s.clients = false →
     s.readBuffer base n = some ((List.range n).map fun j => s.byteAt (base + j)))

/-- R355: an erase sends ERASE_WR_BLK_START with the first block's address, ERASE_WR_BLK_END with the last block's,
and ERASE, each after the one before was accepted; the last accepted command ends it in Ok. -/
def Obligations.EraseSequence : Prop :=
  ∀ (s : State) (x : Ctx) (d first last : Nat) (dv : Device) (a : BitVec 32), s.devices[d]? = some dv →
    (s.stands x .beginCs (.done .ok) → exec (.sdErase d first last) s = .next (s.withCtx (x.goto .erStart))) ∧
    (s.stands x .erStart .ready → cardAddr dv.hc first = some a →
      exec (.sdErase d first last) s = exec (.cmd32EraseWrBlkStart a) s) ∧
    (s.stands x .erStart (.done (.reply 0x00#8)) →
      exec (.sdErase d first last) s = .next (s.withCtx (x.goto .erEnd))) ∧
    (s.stands x .erEnd .ready → cardAddr dv.hc last = some a →
      exec (.sdErase d first last) s = exec (.cmd33EraseWrBlkEnd a) s) ∧
    (s.stands x .erEnd (.done (.reply 0x00#8)) →
      exec (.sdErase d first last) s = .next (s.withCtx (x.goto .erErase))) ∧
    (s.stands x .erErase .ready → exec (.sdErase d first last) s = exec .cmd38Erase s) ∧
    (s.stands x .erErase (.done (.reply 0x00#8)) →
      exec (.sdErase d first last) s = .next (s.withCtx (x.exits .ok)))

/-- R89, R370 to R372, R404: a register read sends SEND_CID or SEND_CSD, waits for the token, reads 16 bytes into its
image and a CRC trailer of 2 bytes that is dropped. A register's bytes reach the caller's buffer only once all of
them are in: the CID in the order received, the CSD reversed; no other byte of memory changes, and no other step of
the operation, a failure among them, changes any. block_count reads the CSD so and stores nothing. -/
def Obligations.RegisterImages : Prop :=
  (∀ (i : Instr) (s : State) (x : Ctx) (d buf : Nat) (dv : Device), registerRead i d buf → s.devices[d]? = some dv →
     (s.stands x .beginCs (.done .ok) → exec i s = .next (s.withCtx (x.goto .rgCommand))) ∧
     (s.stands x .rgCommand .ready → exec i s =
       exec (if i = .sdReadCid d buf then .cmd10SendCid else .cmd9SendCsd) s) ∧
     (s.stands x .rgCommand (.done (.reply 0x00#8)) → exec i s = .next (s.withCtx (x.goto .rgToken))) ∧
     (s.stands x .rgToken .ready → exec i s = .next (s.polling x .pollToken s.cfg.tIo)) ∧
     (s.stands x .rgToken (.done .ok) → exec i s = .next (s.withCtx (x.goto .rgData))) ∧
     (s.stands x .rgToken (.done .timeout) → exec i s = .next (s.withCtx (x.exits .timeout))) ∧
     (s.stands x .rgToken (.done .ioError) → exec i s = .next (s.withCtx (x.exits .ioError))) ∧
     (s.stands x .rgData .ready → exec i s = .next (s.withCtx
       { x with image := [], phase := .streamIn .image 0 16, micro := xferIn 16 })) ∧
     (s.stands x .rgData (.done .ok) → exec i s = .next (s.withCtx (x.goto .rgTrailer))) ∧
     (s.stands x .rgTrailer .ready → exec i s = .next (s.withCtx
       { x with phase := .streamIn .scratch 0 2, micro := xferIn 2 })) ∧
     (s.stands x .rgTrailer (.done .ok) → exec i s = .next (s.withCtx (x.goto .rgStore))) ∧
     (s.stands x .rgStore .ready → i = .blockCount d → exec i s = .next (s.withCtx (x.exits .ok))) ∧
     (s.stands x .rgStore .ready → i ≠ .blockCount d → ownedByOther s.cur buf x.image.length 0 s.clients = true →
       exec i s = .refused .bufferOwned) ∧
     (∀ t, s.ctx = some x → x.pc ≠ .rgStore → (∀ b o l, x.phase ≠ .streamIn (.memory b) o l) →
       exec i s = .next t → t.mem = s.mem)) ∧
  (∀ (s : State) (x : Ctx), s.awaits x (.streamIn .image 0 16) → x.tmp.length = 16 →
     primitiveStep s x = .next (s.withCtx { x with image := x.tmp, phase := .done .ok })) ∧
  (∀ (s : State) (x : Ctx) (d buf : Nat), s.stands x .rgStore .ready → x.image.length = 16 →
     Memory.wf s.mem = true → ownedByOther s.cur buf 16 0 s.clients = false →
     ∃ m m', exec (.sdReadCid d buf) s = .next ((s.withMem m).withCtx (x.exits .ok)) ∧
       exec (.sdReadCsd d buf) s = .next ((s.withMem m').withCtx (x.exits .ok)) ∧
       (∀ k b, x.image[k]? = some b → Memory.read m (buf + k) = b ∧ Memory.read m' (buf + (15 - k)) = b) ∧
       ∀ a, a < buf ∨ buf + 16 ≤ a → Memory.read m a = s.byteAt a ∧ Memory.read m' a = s.byteAt a)

/-- R375, R376: the fields of a CID, as bits of the 16 bytes read as one number, byte 0 the most significant. R380 to
R382: the fields of a CSD, as bits of the 16 bytes of the un-reversed buffer read as one number, byte 0 the least
significant: a version of 0 gives the V1 layout and of 1 the V2 layout. R383, R384: the capacity of a CSD in 512-byte
blocks. V1 with READ_BL_LEN at least 9 gives (C_SIZE + 1) * 2^(C_SIZE_MULT + 2) * 2^READ_BL_LEN / 512, which never
exceeds 2^27; V2 gives (C_SIZE + 1) * 1024 unless that is 2^32; the two cases that give no value are free, and a
version of 2 or 3 gives 0. -/
def Obligations.RegisterDecoding : Prop :=
  (∀ buf : List Byte, buf.length = 16 →
    let F (hi lo : Nat) : Nat := ofBytesLE buf.reverse / 2 ^ lo % 2 ^ (hi + 1 - lo)
    let c := cidDecode buf
    c.mid.toNat = F 127 120 ∧ c.oid.map BitVec.toNat = [F 119 112, F 111 104] ∧
    c.pnm.map BitVec.toNat = [F 103 96, F 95 88, F 87 80, F 79 72, F 71 64] ∧ c.prv.toNat = F 63 56 ∧
    c.psn.toNat = F 55 24 ∧ c.mdtYear = F 19 12 + 2000 ∧ c.mdtMonth = F 11 8 ∧ c.crc.toNat = F 7 1) ∧
  (∀ buf : List Byte, buf.length = 16 →
    let F (hi lo : Nat) : Nat := ofBytesLE buf / 2 ^ lo % 2 ^ (hi + 1 - lo)
    let common : CsdCommon :=
      { csdStructure := F 127 126, taac := F 119 112, nsac := F 111 104, tranSpeed := F 103 96, ccc := F 95 84
        readBlLen := F 83 80, readBlPartial := F 79 79, writeBlkMisalign := F 78 78, readBlkMisalign := F 77 77
        dsrImp := F 76 76, eraseBlkEn := F 46 46, sectorSizeField := F 45 39, wpGrpSize := F 38 32
        wpGrpEnable := F 31 31, r2wFactor := F 28 26, writeBlLen := F 25 22, writeBlPartial := F 21 21
        fileFormatGrp := F 15 15, copy := F 14 14, permWriteProtect := F 13 13, tmpWriteProtect := F 12 12
        fileFormat := F 11 10, crc := F 7 1 }
    (F 127 126 = 0 → csdDecode buf = .v1
      { common := common, cSize := F 73 62, vddRCurrMin := F 61 59, vddRCurrMax := F 58 56
        vddWCurrMin := F 55 53, vddWCurrMax := F 52 50, cSizeMult := F 49 47 }) ∧
    (F 127 126 = 1 → csdDecode buf = .v2 { common := common, cSize := F 69 48 }) ∧
    (1 < F 127 126 → csdDecode buf = .other (F 127 126))) ∧
  (∀ buf : List Byte,
      (csdVersion (csdOf buf) = 0 → 9 ≤ csdField (csdOf buf) 83 80 → ∃ n, csdCapacity buf = some n ∧
        512 * n.toNat = (csdField (csdOf buf) 73 62 + 1) * 2 ^ (csdField (csdOf buf) 49 47 + 2) *
          2 ^ csdField (csdOf buf) 83 80 ∧ n.toNat ≤ 2 ^ 27) ∧
      (csdVersion (csdOf buf) = 0 → csdField (csdOf buf) 83 80 < 9 → csdCapacity buf = none) ∧
      (csdVersion (csdOf buf) = 1 → csdField (csdOf buf) 69 48 ≠ 0x3FFFFF → ∃ n, csdCapacity buf = some n ∧
        n.toNat = (csdField (csdOf buf) 69 48 + 1) * 1024) ∧
      (csdVersion (csdOf buf) = 1 → csdField (csdOf buf) 69 48 = 0x3FFFFF → csdCapacity buf = none) ∧
      (1 < csdVersion (csdOf buf) → csdCapacity buf = some 0#32))

/-! ### The block-device interface -/

/-- R200, R400 to R407, R452: with the lock created, status is ready exactly when the unit names a device whose session
is READY; on a unit that is no device initialize gives not-ready, read and write io-error and block_count 0; and
sector_size returns 512 and erase_granularity 1 for every unit; all of these without touching the bus, changing
nothing but their client's record. That each of them is refused before bus_init, as R200 and R452 say of every
call, although R425 and the pseudocode of R400 to R407 name no such refusal, is the model's choice (log entry 26). -/
def Obligations.BlockDeviceAnswers : Prop :=
  (∀ (s : State) (u : Nat), s.lock.ready = true →
     (∀ dv card, s.devices[u]? = some dv → dv.session = .ready card →
       exec (.status u) s = .next (s.complete .ready)) ∧
     (∀ dv, s.devices[u]? = some dv → (∀ card, dv.session ≠ .ready card) →
       exec (.status u) s = .next (s.complete .notReady)) ∧
     (s.devices.length ≤ u → exec (.status u) s = .next (s.complete .notReady)) ∧
     exec (.sectorSize u) s = .next (s.complete (.number 512#32)) ∧
     exec (.eraseGranularity u) s = .next (s.complete (.number 1#32))) ∧
  (∀ (s : State) (u first count buf : Nat), s.lock.ready = true → s.devices.length ≤ u →
     exec (.upInitialize u) s = .next (s.complete .notReady) ∧
     exec (.upRead u first count buf) s = .next (s.complete .upIoError) ∧
     exec (.upWrite u first count buf) s = .next (s.complete .upIoError) ∧
     exec (.blockCount u) s = .next (s.complete (.number 0#32))) ∧
  (∀ (s : State) (u first count buf : Nat), s.lock.ready = false →
     exec (.status u) s = .refused .noLock ∧ exec (.sectorSize u) s = .refused .noLock ∧
     exec (.eraseGranularity u) s = .refused .noLock ∧
     (s.devices.length ≤ u → exec (.upInitialize u) s = .refused .noLock ∧
       exec (.upRead u first count buf) s = .refused .noLock ∧
       exec (.upWrite u first count buf) s = .refused .noLock ∧ exec (.blockCount u) s = .refused .noLock))
end

