-- ==== Sys2Proof/Laws/Decode.lean ====
section
/-! SUPPORT. Numbers as bytes, and the operand fields of a request. -/

namespace Sys2Proof

@[simp] theorem bytesLE_length (n v : Nat) : (bytesLE n v).length = n := by
  induction n generalizing v with
  | zero => rfl
  | succ n ih => simp [bytesLE, ih]

/-- The bytes of a number give back the number. -/
theorem ofBytesLE_bytesLE (n v : Nat) (h : v < 256 ^ n) : ofBytesLE (bytesLE n v) = v := by
  induction n generalizing v with
  | zero => simp at h; simp [bytesLE, ofBytesLE, h]
  | succ n ih =>
    have hv : v / 256 < 256 ^ n := by
      rw [Nat.pow_succ] at h
      omega
    have hm : (BitVec.ofNat 8 v).toNat = v % 256 := rfl
    simp only [bytesLE, ofBytesLE, ih _ hv, hm]
    omega

/-- A number written in bytes is below `256 ^ n`. -/
theorem ofBytesLE_lt (bs : List Byte) : ofBytesLE bs < 256 ^ bs.length := by
  induction bs with
  | nil => simp [ofBytesLE]
  | cons b bs ih =>
    have := b.isLt
    simp only [ofBytesLE, List.length_cons, Nat.pow_succ]
    omega

/-- The number that bytes spell has those bytes. -/
theorem bytesLE_ofBytesLE (bs : List Byte) : bytesLE bs.length (ofBytesLE bs) = bs := by
  induction bs with
  | nil => rfl
  | cons b bs ih =>
    have hb := b.isLt
    have h1 : BitVec.ofNat 8 (b.toNat + 256 * ofBytesLE bs) = b := by
      apply BitVec.eq_of_toNat_eq
      simp only [BitVec.toNat_ofNat]
      omega
    have h2 : (b.toNat + 256 * ofBytesLE bs) / 256 = ofBytesLE bs := by omega
    simp only [ofBytesLE, List.length_cons, bytesLE, h1, h2, ih]

/-- An operand field holds the number written there. -/
theorem operand_bytesLE {n limit v : Nat} (rest : List Byte) (h : v < limit) (hl : limit ≤ 256 ^ n) :
    operand n limit (bytesLE n v ++ rest) = .ok (v, rest) := by
  have hv := ofBytesLE_bytesLE n v (by omega)
  have ht : (bytesLE n v ++ rest).take n = bytesLE n v := by
    rw [List.take_append_of_le_length (by simp)]
    exact List.take_of_length_le (by simp)
  have hd : (bytesLE n v ++ rest).drop n = rest := by simp
  simp [operand, ht, hd, hv, h]

theorem operand32_bytesLE {v : Nat} (rest : List Byte) (h : fits32 v = true) :
    operand32 (bytesLE 4 v ++ rest) = .ok (v, rest) :=
  operand_bytesLE rest (by simpa [fits32] using h) (by decide)

/-- What an operand field that is read says about the bytes it was read from. -/
theorem operand_ok {n limit v : Nat} {bs rest : List Byte} (h : operand n limit bs = .ok (v, rest)) :
    v < limit ∧ bs = bytesLE n v ++ rest := by
  unfold operand at h
  split at h
  · cases h
  · split at h
    · cases h
      refine ⟨‹_›, ?_⟩
      have hl : (bs.take n).length = n := by rw [List.length_take]; omega
      have := bytesLE_ofBytesLE (bs.take n)
      rw [hl] at this
      rw [this, List.take_append_drop]
    · cases h

theorem operand32_ok {v : Nat} {bs rest : List Byte} (h : operand32 bs = .ok (v, rest)) :
    fits32 v = true ∧ bs = bytesLE 4 v ++ rest := by
  obtain ⟨h1, h2⟩ := operand_ok h
  exact ⟨by simpa [fits32] using h1, h2⟩

/-! ### Four bytes, most significant first -/

/-- The argument of a frame read back from its bytes (R88). -/
theorem be32_bytes (v : BitVec 32) :
    be32 (v.extractLsb' 24 8) (v.extractLsb' 16 8) (v.extractLsb' 8 8) (v.extractLsb' 0 8) = v := by
  unfold be32
  ext i hi
  simp only [BitVec.getElem_append, BitVec.getElem_extractLsb']
  repeat' split
  all_goals
    rw [← BitVec.getLsbD_eq_getElem]
    congr 1
    omega

/-- The bytes of a number read from four bytes (R88). -/
theorem bytesBE32_be32 (b0 b1 b2 b3 : Byte) : bytesBE32 (be32 b0 b1 b2 b3) = [b0, b1, b2, b3] := by
  have key : ∀ (k : Nat) (b : Byte), (∀ i (_ : i < 8), (be32 b0 b1 b2 b3).getLsbD (k + i) = b.getLsbD i) →
      (be32 b0 b1 b2 b3).extractLsb' k 8 = b := by
    intro k b h
    ext i hi
    rw [BitVec.getElem_extractLsb', h i hi, BitVec.getLsbD_eq_getElem hi]
  have bit : ∀ j, (be32 b0 b1 b2 b3).getLsbD j =
      if j < 8 then b3.getLsbD j else if j < 16 then b2.getLsbD (j - 8)
      else if j < 24 then b1.getLsbD (j - 16) else b0.getLsbD (j - 24) := by
    intro j
    simp only [be32, BitVec.getLsbD_append]
    repeat' split
    all_goals first | rfl | omega
  unfold bytesBE32
  rw [key 24 b0, key 16 b1, key 8 b2, key 0 b3]
  all_goals
    intro i hi
    rw [bit]
    repeat' split
    all_goals first | omega | (congr 1; omega)

/-! ### Frames -/

/-- The framing bits and the index of a frame's first byte (R123). -/
theorem frameHead_fields (idx : BitVec 6) :
    (frameHead idx).extractLsb' 6 2 = 0b01#2 ∧ (frameHead idx).extractLsb' 0 6 = idx := by
  revert idx
  decide

/-- The stop bit and the CRC field of a frame's last byte (R123). -/
theorem crcByte_fields (c : BitVec 7) :
    (c ++ 1#1 : Byte).getLsbD 0 = true ∧ (c ++ 1#1 : Byte).extractLsb' 1 7 = c := by
  revert c
  decide

/-- A frame whose index and argument are in the command set decodes to that command. -/
theorem decodeFrame_frameBytes (idx : BitVec 6) (arg : BitVec 32) (i : Instr) (rest : List Byte)
    (h : instrOfFrame idx.toNat arg.toNat = some i) : decodeFrame (frameBytes idx arg ++ rest) = .ok (i, rest) := by
  obtain ⟨h1, h2⟩ := frameHead_fields idx
  obtain ⟨h3, h4⟩ := crcByte_fields (crc7 (frameHead idx :: bytesBE32 arg))
  simp only [frameBytes, frameCrcByte, bytesBE32, List.cons_append, List.nil_append] at h3 h4 ⊢
  simp only [decodeFrame]
  rw [if_neg (by simpa [h1] using h3), if_neg (by simpa using h4), h2, be32_bytes, h]

end Sys2Proof
end

