-- ==== Sys2Proof/Laws/State.lean ====
section
/-! SUPPORT. One lemma per field per update of the state, true by rfl, and the same for the updates that are
made of them. -/

namespace Sys2Proof.Machine

open Sys2Proof

/-! ### `State.withLock` -/

@[simp] theorem State.withLock_cfg (s : State) (v : Lock) : (s.withLock v).cfg = s.cfg := rfl
@[simp] theorem State.withLock_lock (s : State) (v : Lock) : (s.withLock v).lock = v := rfl
@[simp] theorem State.withLock_engine (s : State) (v : Lock) : (s.withLock v).engine = s.engine := rfl
@[simp] theorem State.withLock_xferInLen (s : State) (v : Lock) : (s.withLock v).xferInLen = s.xferInLen := rfl
@[simp] theorem State.withLock_snap (s : State) (v : Lock) : (s.withLock v).snap = s.snap := rfl
@[simp] theorem State.withLock_latch (s : State) (v : Lock) : (s.withLock v).latch = s.latch := rfl
@[simp] theorem State.withLock_lines (s : State) (v : Lock) : (s.withLock v).lines = s.lines := rfl
@[simp] theorem State.withLock_devices (s : State) (v : Lock) : (s.withLock v).devices = s.devices := rfl
@[simp] theorem State.withLock_clients (s : State) (v : Lock) : (s.withLock v).clients = s.clients := rfl
@[simp] theorem State.withLock_mem (s : State) (v : Lock) : (s.withLock v).mem = s.mem := rfl
@[simp] theorem State.withLock_time (s : State) (v : Lock) : (s.withLock v).time = s.time := rfl
@[simp] theorem State.withLock_env (s : State) (v : Lock) : (s.withLock v).env = s.env := rfl
@[simp] theorem State.withLock_cur (s : State) (v : Lock) : (s.withLock v).cur = s.cur := rfl

/-! ### `State.withEngine` -/

@[simp] theorem State.withEngine_cfg (s : State) (v : Engine) : (s.withEngine v).cfg = s.cfg := rfl
@[simp] theorem State.withEngine_lock (s : State) (v : Engine) : (s.withEngine v).lock = s.lock := rfl
@[simp] theorem State.withEngine_engine (s : State) (v : Engine) : (s.withEngine v).engine = v := rfl
@[simp] theorem State.withEngine_xferInLen (s : State) (v : Engine) : (s.withEngine v).xferInLen = s.xferInLen := rfl
@[simp] theorem State.withEngine_snap (s : State) (v : Engine) : (s.withEngine v).snap = s.snap := rfl
@[simp] theorem State.withEngine_latch (s : State) (v : Engine) : (s.withEngine v).latch = s.latch := rfl
@[simp] theorem State.withEngine_lines (s : State) (v : Engine) : (s.withEngine v).lines = s.lines := rfl
@[simp] theorem State.withEngine_devices (s : State) (v : Engine) : (s.withEngine v).devices = s.devices := rfl
@[simp] theorem State.withEngine_clients (s : State) (v : Engine) : (s.withEngine v).clients = s.clients := rfl
@[simp] theorem State.withEngine_mem (s : State) (v : Engine) : (s.withEngine v).mem = s.mem := rfl
@[simp] theorem State.withEngine_time (s : State) (v : Engine) : (s.withEngine v).time = s.time := rfl
@[simp] theorem State.withEngine_env (s : State) (v : Engine) : (s.withEngine v).env = s.env := rfl
@[simp] theorem State.withEngine_cur (s : State) (v : Engine) : (s.withEngine v).cur = s.cur := rfl

/-! ### `State.withXfer` -/

@[simp] theorem State.withXfer_cfg (s : State) (v : Option Nat) : (s.withXfer v).cfg = s.cfg := rfl
@[simp] theorem State.withXfer_lock (s : State) (v : Option Nat) : (s.withXfer v).lock = s.lock := rfl
@[simp] theorem State.withXfer_engine (s : State) (v : Option Nat) : (s.withXfer v).engine = s.engine := rfl
@[simp] theorem State.withXfer_xferInLen (s : State) (v : Option Nat) : (s.withXfer v).xferInLen = v := rfl
@[simp] theorem State.withXfer_snap (s : State) (v : Option Nat) : (s.withXfer v).snap = s.snap := rfl
@[simp] theorem State.withXfer_latch (s : State) (v : Option Nat) : (s.withXfer v).latch = s.latch := rfl
@[simp] theorem State.withXfer_lines (s : State) (v : Option Nat) : (s.withXfer v).lines = s.lines := rfl
@[simp] theorem State.withXfer_devices (s : State) (v : Option Nat) : (s.withXfer v).devices = s.devices := rfl
@[simp] theorem State.withXfer_clients (s : State) (v : Option Nat) : (s.withXfer v).clients = s.clients := rfl
@[simp] theorem State.withXfer_mem (s : State) (v : Option Nat) : (s.withXfer v).mem = s.mem := rfl
@[simp] theorem State.withXfer_time (s : State) (v : Option Nat) : (s.withXfer v).time = s.time := rfl
@[simp] theorem State.withXfer_env (s : State) (v : Option Nat) : (s.withXfer v).env = s.env := rfl
@[simp] theorem State.withXfer_cur (s : State) (v : Option Nat) : (s.withXfer v).cur = s.cur := rfl

/-! ### `State.withSnap` -/

@[simp] theorem State.withSnap_cfg (s : State) (v : Option Snap) : (s.withSnap v).cfg = s.cfg := rfl
@[simp] theorem State.withSnap_lock (s : State) (v : Option Snap) : (s.withSnap v).lock = s.lock := rfl
@[simp] theorem State.withSnap_engine (s : State) (v : Option Snap) : (s.withSnap v).engine = s.engine := rfl
@[simp] theorem State.withSnap_xferInLen (s : State) (v : Option Snap) : (s.withSnap v).xferInLen = s.xferInLen := rfl
@[simp] theorem State.withSnap_snap (s : State) (v : Option Snap) : (s.withSnap v).snap = v := rfl
@[simp] theorem State.withSnap_latch (s : State) (v : Option Snap) : (s.withSnap v).latch = s.latch := rfl
@[simp] theorem State.withSnap_lines (s : State) (v : Option Snap) : (s.withSnap v).lines = s.lines := rfl
@[simp] theorem State.withSnap_devices (s : State) (v : Option Snap) : (s.withSnap v).devices = s.devices := rfl
@[simp] theorem State.withSnap_clients (s : State) (v : Option Snap) : (s.withSnap v).clients = s.clients := rfl
@[simp] theorem State.withSnap_mem (s : State) (v : Option Snap) : (s.withSnap v).mem = s.mem := rfl
@[simp] theorem State.withSnap_time (s : State) (v : Option Snap) : (s.withSnap v).time = s.time := rfl
@[simp] theorem State.withSnap_env (s : State) (v : Option Snap) : (s.withSnap v).env = s.env := rfl
@[simp] theorem State.withSnap_cur (s : State) (v : Option Snap) : (s.withSnap v).cur = s.cur := rfl

/-! ### `State.withLatch` -/

@[simp] theorem State.withLatch_cfg (s : State) (v : Latch) : (s.withLatch v).cfg = s.cfg := rfl
@[simp] theorem State.withLatch_lock (s : State) (v : Latch) : (s.withLatch v).lock = s.lock := rfl
@[simp] theorem State.withLatch_engine (s : State) (v : Latch) : (s.withLatch v).engine = s.engine := rfl
@[simp] theorem State.withLatch_xferInLen (s : State) (v : Latch) : (s.withLatch v).xferInLen = s.xferInLen := rfl
@[simp] theorem State.withLatch_snap (s : State) (v : Latch) : (s.withLatch v).snap = s.snap := rfl
@[simp] theorem State.withLatch_latch (s : State) (v : Latch) : (s.withLatch v).latch = v := rfl
@[simp] theorem State.withLatch_lines (s : State) (v : Latch) : (s.withLatch v).lines = s.lines := rfl
@[simp] theorem State.withLatch_devices (s : State) (v : Latch) : (s.withLatch v).devices = s.devices := rfl
@[simp] theorem State.withLatch_clients (s : State) (v : Latch) : (s.withLatch v).clients = s.clients := rfl
@[simp] theorem State.withLatch_mem (s : State) (v : Latch) : (s.withLatch v).mem = s.mem := rfl
@[simp] theorem State.withLatch_time (s : State) (v : Latch) : (s.withLatch v).time = s.time := rfl
@[simp] theorem State.withLatch_env (s : State) (v : Latch) : (s.withLatch v).env = s.env := rfl
@[simp] theorem State.withLatch_cur (s : State) (v : Latch) : (s.withLatch v).cur = s.cur := rfl

/-! ### `State.withLines` -/

@[simp] theorem State.withLines_cfg (s : State) (v : Lines) : (s.withLines v).cfg = s.cfg := rfl
@[simp] theorem State.withLines_lock (s : State) (v : Lines) : (s.withLines v).lock = s.lock := rfl
@[simp] theorem State.withLines_engine (s : State) (v : Lines) : (s.withLines v).engine = s.engine := rfl
@[simp] theorem State.withLines_xferInLen (s : State) (v : Lines) : (s.withLines v).xferInLen = s.xferInLen := rfl
@[simp] theorem State.withLines_snap (s : State) (v : Lines) : (s.withLines v).snap = s.snap := rfl
@[simp] theorem State.withLines_latch (s : State) (v : Lines) : (s.withLines v).latch = s.latch := rfl
@[simp] theorem State.withLines_lines (s : State) (v : Lines) : (s.withLines v).lines = v := rfl
@[simp] theorem State.withLines_devices (s : State) (v : Lines) : (s.withLines v).devices = s.devices := rfl
@[simp] theorem State.withLines_clients (s : State) (v : Lines) : (s.withLines v).clients = s.clients := rfl
@[simp] theorem State.withLines_mem (s : State) (v : Lines) : (s.withLines v).mem = s.mem := rfl
@[simp] theorem State.withLines_time (s : State) (v : Lines) : (s.withLines v).time = s.time := rfl
@[simp] theorem State.withLines_env (s : State) (v : Lines) : (s.withLines v).env = s.env := rfl
@[simp] theorem State.withLines_cur (s : State) (v : Lines) : (s.withLines v).cur = s.cur := rfl

/-! ### `State.withDevices` -/

@[simp] theorem State.withDevices_cfg (s : State) (v : List Device) : (s.withDevices v).cfg = s.cfg := rfl
@[simp] theorem State.withDevices_lock (s : State) (v : List Device) : (s.withDevices v).lock = s.lock := rfl
@[simp] theorem State.withDevices_engine (s : State) (v : List Device) : (s.withDevices v).engine = s.engine := rfl
@[simp] theorem State.withDevices_xferInLen (s : State) (v : List Device) : (s.withDevices v).xferInLen = s.xferInLen := rfl
@[simp] theorem State.withDevices_snap (s : State) (v : List Device) : (s.withDevices v).snap = s.snap := rfl
@[simp] theorem State.withDevices_latch (s : State) (v : List Device) : (s.withDevices v).latch = s.latch := rfl
@[simp] theorem State.withDevices_lines (s : State) (v : List Device) : (s.withDevices v).lines = s.lines := rfl
@[simp] theorem State.withDevices_devices (s : State) (v : List Device) : (s.withDevices v).devices = v := rfl
@[simp] theorem State.withDevices_clients (s : State) (v : List Device) : (s.withDevices v).clients = s.clients := rfl
@[simp] theorem State.withDevices_mem (s : State) (v : List Device) : (s.withDevices v).mem = s.mem := rfl
@[simp] theorem State.withDevices_time (s : State) (v : List Device) : (s.withDevices v).time = s.time := rfl
@[simp] theorem State.withDevices_env (s : State) (v : List Device) : (s.withDevices v).env = s.env := rfl
@[simp] theorem State.withDevices_cur (s : State) (v : List Device) : (s.withDevices v).cur = s.cur := rfl

/-! ### `State.withClients` -/

@[simp] theorem State.withClients_cfg (s : State) (v : List Client) : (s.withClients v).cfg = s.cfg := rfl
@[simp] theorem State.withClients_lock (s : State) (v : List Client) : (s.withClients v).lock = s.lock := rfl
@[simp] theorem State.withClients_engine (s : State) (v : List Client) : (s.withClients v).engine = s.engine := rfl
@[simp] theorem State.withClients_xferInLen (s : State) (v : List Client) : (s.withClients v).xferInLen = s.xferInLen := rfl
@[simp] theorem State.withClients_snap (s : State) (v : List Client) : (s.withClients v).snap = s.snap := rfl
@[simp] theorem State.withClients_latch (s : State) (v : List Client) : (s.withClients v).latch = s.latch := rfl
@[simp] theorem State.withClients_lines (s : State) (v : List Client) : (s.withClients v).lines = s.lines := rfl
@[simp] theorem State.withClients_devices (s : State) (v : List Client) : (s.withClients v).devices = s.devices := rfl
@[simp] theorem State.withClients_clients (s : State) (v : List Client) : (s.withClients v).clients = v := rfl
@[simp] theorem State.withClients_mem (s : State) (v : List Client) : (s.withClients v).mem = s.mem := rfl
@[simp] theorem State.withClients_time (s : State) (v : List Client) : (s.withClients v).time = s.time := rfl
@[simp] theorem State.withClients_env (s : State) (v : List Client) : (s.withClients v).env = s.env := rfl
@[simp] theorem State.withClients_cur (s : State) (v : List Client) : (s.withClients v).cur = s.cur := rfl

/-! ### `State.withMem` -/

@[simp] theorem State.withMem_cfg (s : State) (v : List Host.Cell) : (s.withMem v).cfg = s.cfg := rfl
@[simp] theorem State.withMem_lock (s : State) (v : List Host.Cell) : (s.withMem v).lock = s.lock := rfl
@[simp] theorem State.withMem_engine (s : State) (v : List Host.Cell) : (s.withMem v).engine = s.engine := rfl
@[simp] theorem State.withMem_xferInLen (s : State) (v : List Host.Cell) : (s.withMem v).xferInLen = s.xferInLen := rfl
@[simp] theorem State.withMem_snap (s : State) (v : List Host.Cell) : (s.withMem v).snap = s.snap := rfl
@[simp] theorem State.withMem_latch (s : State) (v : List Host.Cell) : (s.withMem v).latch = s.latch := rfl
@[simp] theorem State.withMem_lines (s : State) (v : List Host.Cell) : (s.withMem v).lines = s.lines := rfl
@[simp] theorem State.withMem_devices (s : State) (v : List Host.Cell) : (s.withMem v).devices = s.devices := rfl
@[simp] theorem State.withMem_clients (s : State) (v : List Host.Cell) : (s.withMem v).clients = s.clients := rfl
@[simp] theorem State.withMem_mem (s : State) (v : List Host.Cell) : (s.withMem v).mem = v := rfl
@[simp] theorem State.withMem_time (s : State) (v : List Host.Cell) : (s.withMem v).time = s.time := rfl
@[simp] theorem State.withMem_env (s : State) (v : List Host.Cell) : (s.withMem v).env = s.env := rfl
@[simp] theorem State.withMem_cur (s : State) (v : List Host.Cell) : (s.withMem v).cur = s.cur := rfl

/-! ### `State.withTime` -/

@[simp] theorem State.withTime_cfg (s : State) (v : Nat) : (s.withTime v).cfg = s.cfg := rfl
@[simp] theorem State.withTime_lock (s : State) (v : Nat) : (s.withTime v).lock = s.lock := rfl
@[simp] theorem State.withTime_engine (s : State) (v : Nat) : (s.withTime v).engine = s.engine := rfl
@[simp] theorem State.withTime_xferInLen (s : State) (v : Nat) : (s.withTime v).xferInLen = s.xferInLen := rfl
@[simp] theorem State.withTime_snap (s : State) (v : Nat) : (s.withTime v).snap = s.snap := rfl
@[simp] theorem State.withTime_latch (s : State) (v : Nat) : (s.withTime v).latch = s.latch := rfl
@[simp] theorem State.withTime_lines (s : State) (v : Nat) : (s.withTime v).lines = s.lines := rfl
@[simp] theorem State.withTime_devices (s : State) (v : Nat) : (s.withTime v).devices = s.devices := rfl
@[simp] theorem State.withTime_clients (s : State) (v : Nat) : (s.withTime v).clients = s.clients := rfl
@[simp] theorem State.withTime_mem (s : State) (v : Nat) : (s.withTime v).mem = s.mem := rfl
@[simp] theorem State.withTime_time (s : State) (v : Nat) : (s.withTime v).time = v := rfl
@[simp] theorem State.withTime_env (s : State) (v : Nat) : (s.withTime v).env = s.env := rfl
@[simp] theorem State.withTime_cur (s : State) (v : Nat) : (s.withTime v).cur = s.cur := rfl

/-! ### `State.withEnv` -/

@[simp] theorem State.withEnv_cfg (s : State) (v : Env) : (s.withEnv v).cfg = s.cfg := rfl
@[simp] theorem State.withEnv_lock (s : State) (v : Env) : (s.withEnv v).lock = s.lock := rfl
@[simp] theorem State.withEnv_engine (s : State) (v : Env) : (s.withEnv v).engine = s.engine := rfl
@[simp] theorem State.withEnv_xferInLen (s : State) (v : Env) : (s.withEnv v).xferInLen = s.xferInLen := rfl
@[simp] theorem State.withEnv_snap (s : State) (v : Env) : (s.withEnv v).snap = s.snap := rfl
@[simp] theorem State.withEnv_latch (s : State) (v : Env) : (s.withEnv v).latch = s.latch := rfl
@[simp] theorem State.withEnv_lines (s : State) (v : Env) : (s.withEnv v).lines = s.lines := rfl
@[simp] theorem State.withEnv_devices (s : State) (v : Env) : (s.withEnv v).devices = s.devices := rfl
@[simp] theorem State.withEnv_clients (s : State) (v : Env) : (s.withEnv v).clients = s.clients := rfl
@[simp] theorem State.withEnv_mem (s : State) (v : Env) : (s.withEnv v).mem = s.mem := rfl
@[simp] theorem State.withEnv_time (s : State) (v : Env) : (s.withEnv v).time = s.time := rfl
@[simp] theorem State.withEnv_env (s : State) (v : Env) : (s.withEnv v).env = v := rfl
@[simp] theorem State.withEnv_cur (s : State) (v : Env) : (s.withEnv v).cur = s.cur := rfl

/-! ### `State.withCur` -/

@[simp] theorem State.withCur_cfg (s : State) (v : Nat) : (s.withCur v).cfg = s.cfg := rfl
@[simp] theorem State.withCur_lock (s : State) (v : Nat) : (s.withCur v).lock = s.lock := rfl
@[simp] theorem State.withCur_engine (s : State) (v : Nat) : (s.withCur v).engine = s.engine := rfl
@[simp] theorem State.withCur_xferInLen (s : State) (v : Nat) : (s.withCur v).xferInLen = s.xferInLen := rfl
@[simp] theorem State.withCur_snap (s : State) (v : Nat) : (s.withCur v).snap = s.snap := rfl
@[simp] theorem State.withCur_latch (s : State) (v : Nat) : (s.withCur v).latch = s.latch := rfl
@[simp] theorem State.withCur_lines (s : State) (v : Nat) : (s.withCur v).lines = s.lines := rfl
@[simp] theorem State.withCur_devices (s : State) (v : Nat) : (s.withCur v).devices = s.devices := rfl
@[simp] theorem State.withCur_clients (s : State) (v : Nat) : (s.withCur v).clients = s.clients := rfl
@[simp] theorem State.withCur_mem (s : State) (v : Nat) : (s.withCur v).mem = s.mem := rfl
@[simp] theorem State.withCur_time (s : State) (v : Nat) : (s.withCur v).time = s.time := rfl
@[simp] theorem State.withCur_env (s : State) (v : Nat) : (s.withCur v).env = s.env := rfl
@[simp] theorem State.withCur_cur (s : State) (v : Nat) : (s.withCur v).cur = v := rfl

/-! ### `State.withCs` -/

@[simp] theorem State.withCs_cfg (s : State) (v : CsLine) :
    (s.withCs v).cfg = s.cfg := rfl
@[simp] theorem State.withCs_lock (s : State) (v : CsLine) :
    (s.withCs v).lock = s.lock := rfl
@[simp] theorem State.withCs_engine (s : State) (v : CsLine) :
    (s.withCs v).engine = s.engine := rfl
@[simp] theorem State.withCs_xferInLen (s : State) (v : CsLine) :
    (s.withCs v).xferInLen = s.xferInLen := rfl
@[simp] theorem State.withCs_snap (s : State) (v : CsLine) :
    (s.withCs v).snap = s.snap := rfl
@[simp] theorem State.withCs_latch (s : State) (v : CsLine) :
    (s.withCs v).latch = s.latch := rfl
@[simp] theorem State.withCs_lines (s : State) (v : CsLine) :
    (s.withCs v).lines = { s.lines with cs := some v } := rfl
@[simp] theorem State.withCs_devices (s : State) (v : CsLine) :
    (s.withCs v).devices = s.devices := rfl
@[simp] theorem State.withCs_clients (s : State) (v : CsLine) :
    (s.withCs v).clients = s.clients := rfl
@[simp] theorem State.withCs_mem (s : State) (v : CsLine) :
    (s.withCs v).mem = s.mem := rfl
@[simp] theorem State.withCs_time (s : State) (v : CsLine) :
    (s.withCs v).time = s.time := rfl
@[simp] theorem State.withCs_env (s : State) (v : CsLine) :
    (s.withCs v).env = s.env := rfl
@[simp] theorem State.withCs_cur (s : State) (v : CsLine) :
    (s.withCs v).cur = s.cur := rfl

/-! ### `State.changeDevice` -/

@[simp] theorem State.changeDevice_cfg (s : State) (d : Nat) (f : Device → Device) :
    (s.changeDevice d f).cfg = s.cfg := rfl
@[simp] theorem State.changeDevice_lock (s : State) (d : Nat) (f : Device → Device) :
    (s.changeDevice d f).lock = s.lock := rfl
@[simp] theorem State.changeDevice_engine (s : State) (d : Nat) (f : Device → Device) :
    (s.changeDevice d f).engine = s.engine := rfl
@[simp] theorem State.changeDevice_xferInLen (s : State) (d : Nat) (f : Device → Device) :
    (s.changeDevice d f).xferInLen = s.xferInLen := rfl
@[simp] theorem State.changeDevice_snap (s : State) (d : Nat) (f : Device → Device) :
    (s.changeDevice d f).snap = s.snap := rfl
@[simp] theorem State.changeDevice_latch (s : State) (d : Nat) (f : Device → Device) :
    (s.changeDevice d f).latch = s.latch := rfl
@[simp] theorem State.changeDevice_lines (s : State) (d : Nat) (f : Device → Device) :
    (s.changeDevice d f).lines = s.lines := rfl
@[simp] theorem State.changeDevice_devices (s : State) (d : Nat) (f : Device → Device) :
    (s.changeDevice d f).devices = changeAt f d s.devices := rfl
@[simp] theorem State.changeDevice_clients (s : State) (d : Nat) (f : Device → Device) :
    (s.changeDevice d f).clients = s.clients := rfl
@[simp] theorem State.changeDevice_mem (s : State) (d : Nat) (f : Device → Device) :
    (s.changeDevice d f).mem = s.mem := rfl
@[simp] theorem State.changeDevice_time (s : State) (d : Nat) (f : Device → Device) :
    (s.changeDevice d f).time = s.time := rfl
@[simp] theorem State.changeDevice_env (s : State) (d : Nat) (f : Device → Device) :
    (s.changeDevice d f).env = s.env := rfl
@[simp] theorem State.changeDevice_cur (s : State) (d : Nat) (f : Device → Device) :
    (s.changeDevice d f).cur = s.cur := rfl

/-! ### `State.changeClient` -/

@[simp] theorem State.changeClient_cfg (s : State) (c : Nat) (f : Client → Client) :
    (s.changeClient c f).cfg = s.cfg := rfl
@[simp] theorem State.changeClient_lock (s : State) (c : Nat) (f : Client → Client) :
    (s.changeClient c f).lock = s.lock := rfl
@[simp] theorem State.changeClient_engine (s : State) (c : Nat) (f : Client → Client) :
    (s.changeClient c f).engine = s.engine := rfl
@[simp] theorem State.changeClient_xferInLen (s : State) (c : Nat) (f : Client → Client) :
    (s.changeClient c f).xferInLen = s.xferInLen := rfl
@[simp] theorem State.changeClient_snap (s : State) (c : Nat) (f : Client → Client) :
    (s.changeClient c f).snap = s.snap := rfl
@[simp] theorem State.changeClient_latch (s : State) (c : Nat) (f : Client → Client) :
    (s.changeClient c f).latch = s.latch := rfl
@[simp] theorem State.changeClient_lines (s : State) (c : Nat) (f : Client → Client) :
    (s.changeClient c f).lines = s.lines := rfl
@[simp] theorem State.changeClient_devices (s : State) (c : Nat) (f : Client → Client) :
    (s.changeClient c f).devices = s.devices := rfl
@[simp] theorem State.changeClient_clients (s : State) (c : Nat) (f : Client → Client) :
    (s.changeClient c f).clients = changeAt f c s.clients := rfl
@[simp] theorem State.changeClient_mem (s : State) (c : Nat) (f : Client → Client) :
    (s.changeClient c f).mem = s.mem := rfl
@[simp] theorem State.changeClient_time (s : State) (c : Nat) (f : Client → Client) :
    (s.changeClient c f).time = s.time := rfl
@[simp] theorem State.changeClient_env (s : State) (c : Nat) (f : Client → Client) :
    (s.changeClient c f).env = s.env := rfl
@[simp] theorem State.changeClient_cur (s : State) (c : Nat) (f : Client → Client) :
    (s.changeClient c f).cur = s.cur := rfl

/-! ### `State.withCtx` -/

@[simp] theorem State.withCtx_cfg (s : State) (x : Ctx) :
    (s.withCtx x).cfg = s.cfg := rfl
@[simp] theorem State.withCtx_lock (s : State) (x : Ctx) :
    (s.withCtx x).lock = s.lock := rfl
@[simp] theorem State.withCtx_engine (s : State) (x : Ctx) :
    (s.withCtx x).engine = s.engine := rfl
@[simp] theorem State.withCtx_xferInLen (s : State) (x : Ctx) :
    (s.withCtx x).xferInLen = s.xferInLen := rfl
@[simp] theorem State.withCtx_snap (s : State) (x : Ctx) :
    (s.withCtx x).snap = s.snap := rfl
@[simp] theorem State.withCtx_latch (s : State) (x : Ctx) :
    (s.withCtx x).latch = s.latch := rfl
@[simp] theorem State.withCtx_lines (s : State) (x : Ctx) :
    (s.withCtx x).lines = s.lines := rfl
@[simp] theorem State.withCtx_devices (s : State) (x : Ctx) :
    (s.withCtx x).devices = s.devices := rfl
@[simp] theorem State.withCtx_clients (s : State) (x : Ctx) :
    (s.withCtx x).clients = changeAt (fun cl => { cl with ctx := some x }) s.cur s.clients := rfl
@[simp] theorem State.withCtx_mem (s : State) (x : Ctx) :
    (s.withCtx x).mem = s.mem := rfl
@[simp] theorem State.withCtx_time (s : State) (x : Ctx) :
    (s.withCtx x).time = s.time := rfl
@[simp] theorem State.withCtx_env (s : State) (x : Ctx) :
    (s.withCtx x).env = s.env := rfl
@[simp] theorem State.withCtx_cur (s : State) (x : Ctx) :
    (s.withCtx x).cur = s.cur := rfl

/-! ### `State.complete` -/

@[simp] theorem State.complete_cfg (s : State) (r : Result) :
    (s.complete r).cfg = s.cfg := rfl
@[simp] theorem State.complete_lock (s : State) (r : Result) :
    (s.complete r).lock = s.lock := rfl
@[simp] theorem State.complete_engine (s : State) (r : Result) :
    (s.complete r).engine = s.engine := rfl
@[simp] theorem State.complete_xferInLen (s : State) (r : Result) :
    (s.complete r).xferInLen = s.xferInLen := rfl
@[simp] theorem State.complete_snap (s : State) (r : Result) :
    (s.complete r).snap = s.snap := rfl
@[simp] theorem State.complete_latch (s : State) (r : Result) :
    (s.complete r).latch = s.latch := rfl
@[simp] theorem State.complete_lines (s : State) (r : Result) :
    (s.complete r).lines = s.lines := rfl
@[simp] theorem State.complete_devices (s : State) (r : Result) :
    (s.complete r).devices = s.devices := rfl
@[simp] theorem State.complete_clients (s : State) (r : Result) :
    (s.complete r).clients = changeAt (fun cl => { calls := cl.calls.drop 1, results := cl.results ++ [r], ctx := none }) s.cur s.clients := rfl
@[simp] theorem State.complete_mem (s : State) (r : Result) :
    (s.complete r).mem = s.mem := rfl
@[simp] theorem State.complete_time (s : State) (r : Result) :
    (s.complete r).time = s.time := rfl
@[simp] theorem State.complete_env (s : State) (r : Result) :
    (s.complete r).env = s.env := rfl
@[simp] theorem State.complete_cur (s : State) (r : Result) :
    (s.complete r).cur = s.cur := rfl

/-! ### `State.withSession` -/

@[simp] theorem State.withSession_cfg (s : State) (d : Nat) (v : Session) :
    (s.withSession d v).cfg = s.cfg := rfl
@[simp] theorem State.withSession_lock (s : State) (d : Nat) (v : Session) :
    (s.withSession d v).lock = s.lock := rfl
@[simp] theorem State.withSession_engine (s : State) (d : Nat) (v : Session) :
    (s.withSession d v).engine = s.engine := rfl
@[simp] theorem State.withSession_xferInLen (s : State) (d : Nat) (v : Session) :
    (s.withSession d v).xferInLen = s.xferInLen := rfl
@[simp] theorem State.withSession_snap (s : State) (d : Nat) (v : Session) :
    (s.withSession d v).snap = s.snap := rfl
@[simp] theorem State.withSession_latch (s : State) (d : Nat) (v : Session) :
    (s.withSession d v).latch = s.latch := rfl
@[simp] theorem State.withSession_lines (s : State) (d : Nat) (v : Session) :
    (s.withSession d v).lines = s.lines := rfl
@[simp] theorem State.withSession_devices (s : State) (d : Nat) (v : Session) :
    (s.withSession d v).devices = changeAt (fun dv => { dv with session := v }) d s.devices := rfl
@[simp] theorem State.withSession_clients (s : State) (d : Nat) (v : Session) :
    (s.withSession d v).clients = s.clients := rfl
@[simp] theorem State.withSession_mem (s : State) (d : Nat) (v : Session) :
    (s.withSession d v).mem = s.mem := rfl
@[simp] theorem State.withSession_time (s : State) (d : Nat) (v : Session) :
    (s.withSession d v).time = s.time := rfl
@[simp] theorem State.withSession_env (s : State) (d : Nat) (v : Session) :
    (s.withSession d v).env = s.env := rfl
@[simp] theorem State.withSession_cur (s : State) (d : Nat) (v : Session) :
    (s.withSession d v).cur = s.cur := rfl

/-! ### `State.withHc` -/

@[simp] theorem State.withHc_cfg (s : State) (d : Nat) (v : Bool) :
    (s.withHc d v).cfg = s.cfg := rfl
@[simp] theorem State.withHc_lock (s : State) (d : Nat) (v : Bool) :
    (s.withHc d v).lock = s.lock := rfl
@[simp] theorem State.withHc_engine (s : State) (d : Nat) (v : Bool) :
    (s.withHc d v).engine = s.engine := rfl
@[simp] theorem State.withHc_xferInLen (s : State) (d : Nat) (v : Bool) :
    (s.withHc d v).xferInLen = s.xferInLen := rfl
@[simp] theorem State.withHc_snap (s : State) (d : Nat) (v : Bool) :
    (s.withHc d v).snap = s.snap := rfl
@[simp] theorem State.withHc_latch (s : State) (d : Nat) (v : Bool) :
    (s.withHc d v).latch = s.latch := rfl
@[simp] theorem State.withHc_lines (s : State) (d : Nat) (v : Bool) :
    (s.withHc d v).lines = s.lines := rfl
@[simp] theorem State.withHc_devices (s : State) (d : Nat) (v : Bool) :
    (s.withHc d v).devices = changeAt (fun dv => { dv with hc := v }) d s.devices := rfl
@[simp] theorem State.withHc_clients (s : State) (d : Nat) (v : Bool) :
    (s.withHc d v).clients = s.clients := rfl
@[simp] theorem State.withHc_mem (s : State) (d : Nat) (v : Bool) :
    (s.withHc d v).mem = s.mem := rfl
@[simp] theorem State.withHc_time (s : State) (d : Nat) (v : Bool) :
    (s.withHc d v).time = s.time := rfl
@[simp] theorem State.withHc_env (s : State) (d : Nat) (v : Bool) :
    (s.withHc d v).env = s.env := rfl
@[simp] theorem State.withHc_cur (s : State) (d : Nat) (v : Bool) :
    (s.withHc d v).cur = s.cur := rfl

/-! ### The environment's answers change nothing but the environment -/

@[simp] theorem State.drawBit_cfg (s : State) : s.drawBit.2.cfg = s.cfg := by
  unfold State.drawBit
  split <;> rfl
@[simp] theorem State.drawBit_lock (s : State) : s.drawBit.2.lock = s.lock := by
  unfold State.drawBit
  split <;> rfl
@[simp] theorem State.drawBit_engine (s : State) : s.drawBit.2.engine = s.engine := by
  unfold State.drawBit
  split <;> rfl
@[simp] theorem State.drawBit_xferInLen (s : State) : s.drawBit.2.xferInLen = s.xferInLen := by
  unfold State.drawBit
  split <;> rfl
@[simp] theorem State.drawBit_snap (s : State) : s.drawBit.2.snap = s.snap := by
  unfold State.drawBit
  split <;> rfl
@[simp] theorem State.drawBit_latch (s : State) : s.drawBit.2.latch = s.latch := by
  unfold State.drawBit
  split <;> rfl
@[simp] theorem State.drawBit_lines (s : State) : s.drawBit.2.lines = s.lines := by
  unfold State.drawBit
  split <;> rfl
@[simp] theorem State.drawBit_devices (s : State) : s.drawBit.2.devices = s.devices := by
  unfold State.drawBit
  split <;> rfl
@[simp] theorem State.drawBit_clients (s : State) : s.drawBit.2.clients = s.clients := by
  unfold State.drawBit
  split <;> rfl
@[simp] theorem State.drawBit_mem (s : State) : s.drawBit.2.mem = s.mem := by
  unfold State.drawBit
  split <;> rfl
@[simp] theorem State.drawBit_time (s : State) : s.drawBit.2.time = s.time := by
  unfold State.drawBit
  split <;> rfl
@[simp] theorem State.drawBit_cur (s : State) : s.drawBit.2.cur = s.cur := by
  unfold State.drawBit
  split <;> rfl

@[simp] theorem State.nextAgent_cfg (s : State) : s.nextAgent.2.cfg = s.cfg := by
  unfold State.nextAgent
  split <;> rfl
@[simp] theorem State.nextAgent_lock (s : State) : s.nextAgent.2.lock = s.lock := by
  unfold State.nextAgent
  split <;> rfl
@[simp] theorem State.nextAgent_engine (s : State) : s.nextAgent.2.engine = s.engine := by
  unfold State.nextAgent
  split <;> rfl
@[simp] theorem State.nextAgent_xferInLen (s : State) : s.nextAgent.2.xferInLen = s.xferInLen := by
  unfold State.nextAgent
  split <;> rfl
@[simp] theorem State.nextAgent_snap (s : State) : s.nextAgent.2.snap = s.snap := by
  unfold State.nextAgent
  split <;> rfl
@[simp] theorem State.nextAgent_latch (s : State) : s.nextAgent.2.latch = s.latch := by
  unfold State.nextAgent
  split <;> rfl
@[simp] theorem State.nextAgent_lines (s : State) : s.nextAgent.2.lines = s.lines := by
  unfold State.nextAgent
  split <;> rfl
@[simp] theorem State.nextAgent_devices (s : State) : s.nextAgent.2.devices = s.devices := by
  unfold State.nextAgent
  split <;> rfl
@[simp] theorem State.nextAgent_clients (s : State) : s.nextAgent.2.clients = s.clients := by
  unfold State.nextAgent
  split <;> rfl
@[simp] theorem State.nextAgent_mem (s : State) : s.nextAgent.2.mem = s.mem := by
  unfold State.nextAgent
  split <;> rfl
@[simp] theorem State.nextAgent_time (s : State) : s.nextAgent.2.time = s.time := by
  unfold State.nextAgent
  split <;> rfl
@[simp] theorem State.nextAgent_cur (s : State) : s.nextAgent.2.cur = s.cur := by
  unfold State.nextAgent
  split <;> rfl

@[simp] theorem State.now_cfg (s : State) : s.now.2.cfg = s.cfg := by
  unfold State.now
  split <;> rfl
@[simp] theorem State.now_lock (s : State) : s.now.2.lock = s.lock := by
  unfold State.now
  split <;> rfl
@[simp] theorem State.now_engine (s : State) : s.now.2.engine = s.engine := by
  unfold State.now
  split <;> rfl
@[simp] theorem State.now_xferInLen (s : State) : s.now.2.xferInLen = s.xferInLen := by
  unfold State.now
  split <;> rfl
@[simp] theorem State.now_snap (s : State) : s.now.2.snap = s.snap := by
  unfold State.now
  split <;> rfl
@[simp] theorem State.now_latch (s : State) : s.now.2.latch = s.latch := by
  unfold State.now
  split <;> rfl
@[simp] theorem State.now_lines (s : State) : s.now.2.lines = s.lines := by
  unfold State.now
  split <;> rfl
@[simp] theorem State.now_devices (s : State) : s.now.2.devices = s.devices := by
  unfold State.now
  split <;> rfl
@[simp] theorem State.now_clients (s : State) : s.now.2.clients = s.clients := by
  unfold State.now
  split <;> rfl
@[simp] theorem State.now_mem (s : State) : s.now.2.mem = s.mem := by
  unfold State.now
  split <;> rfl
@[simp] theorem State.now_cur (s : State) : s.now.2.cur = s.cur := by
  unfold State.now
  split <;> rfl
@[simp] theorem State.now_time (s : State) : s.now.2.time = s.now.1 := by
  unfold State.now
  split <;> rfl

/-- `TIME` never goes back (R36). -/
theorem State.time_le_now (s : State) : s.time ≤ s.now.1 := by
  unfold State.now
  split <;> simp

@[simp] theorem State.deadline_fst (s : State) (t0 limit : Nat) :
    (s.deadline t0 limit).1 = decide (s.now.1 - t0 ≥ limit) := rfl
@[simp] theorem State.deadline_snd (s : State) (t0 limit : Nat) : (s.deadline t0 limit).2 = s.now.2 := rfl

@[simp] theorem State.drawCapacity_cfg (s : State) : s.drawCapacity.2.cfg = s.cfg := rfl
@[simp] theorem State.drawCapacity_lock (s : State) : s.drawCapacity.2.lock = s.lock := rfl
@[simp] theorem State.drawCapacity_engine (s : State) : s.drawCapacity.2.engine = s.engine := rfl
@[simp] theorem State.drawCapacity_xferInLen (s : State) : s.drawCapacity.2.xferInLen = s.xferInLen := rfl
@[simp] theorem State.drawCapacity_snap (s : State) : s.drawCapacity.2.snap = s.snap := rfl
@[simp] theorem State.drawCapacity_latch (s : State) : s.drawCapacity.2.latch = s.latch := rfl
@[simp] theorem State.drawCapacity_lines (s : State) : s.drawCapacity.2.lines = s.lines := rfl
@[simp] theorem State.drawCapacity_devices (s : State) : s.drawCapacity.2.devices = s.devices := rfl
@[simp] theorem State.drawCapacity_clients (s : State) : s.drawCapacity.2.clients = s.clients := rfl
@[simp] theorem State.drawCapacity_mem (s : State) : s.drawCapacity.2.mem = s.mem := rfl
@[simp] theorem State.drawCapacity_time (s : State) : s.drawCapacity.2.time = s.time := rfl
@[simp] theorem State.drawCapacity_cur (s : State) : s.drawCapacity.2.cur = s.cur := rfl

/-! ### Lists changed at one place -/

@[simp] theorem changeAt_length {α : Type} (f : α → α) (n : Nat) (l : List α) :
    (changeAt f n l).length = l.length := by
  induction l generalizing n with
  | nil => cases n <;> rfl
  | cons a l ih => cases n <;> simp [changeAt, ih]

/-- The element at the place is changed and no other is. -/
theorem changeAt_getElem? {α : Type} (f : α → α) (n m : Nat) (l : List α) :
    (changeAt f n l)[m]? = if m = n then (l[m]?).map f else l[m]? := by
  induction l generalizing n m with
  | nil => cases n <;> simp [changeAt]
  | cons a l ih => cases n <;> cases m <;> simp [changeAt, ih]

theorem changeAt_same {α : Type} (f : α → α) (n : Nat) (l : List α) :
    (changeAt f n l)[n]? = (l[n]?).map f := by simp [changeAt_getElem?]

theorem changeAt_other {α : Type} (f : α → α) {n m : Nat} (l : List α) (h : m ≠ n) :
    (changeAt f n l)[m]? = l[m]? := by simp [changeAt_getElem?, h]

/-- A list changed at a place it does not have is as it was. -/
theorem changeAt_none {α : Type} (f : α → α) (n : Nat) (l : List α) (h : l[n]? = none) :
    changeAt f n l = l := by
  induction l generalizing n with
  | nil => cases n <;> rfl
  | cons a l ih =>
    cases n with
    | zero => simp at h
    | succ n => simpa [changeAt] using ih n (by simpa using h)

/-! ### The context of the client that takes the step -/

/-- After `withCtx` the client, if it exists, has the new context. -/
theorem State.withCtx_ctx (s : State) (x : Ctx) :
    (s.withCtx x).ctx = (s.clients[s.cur]?).map fun _ => x := by
  simp only [State.ctx, State.withCtx_clients, State.withCtx_cur, changeAt_same]
  cases s.clients[s.cur]? <;> rfl

/-- A client whose operation has returned has no context. -/
@[simp] theorem State.complete_ctx (s : State) (r : Result) : (s.complete r).ctx = none := by
  simp only [State.ctx, State.complete_clients, State.complete_cur, changeAt_same]
  cases s.clients[s.cur]? <;> rfl

end Sys2Proof.Machine
end

