-- ==== Sys2Proof/Laws/Engine.lean ====
section
/-! SUPPORT. What each engine operation can do: the guards, and one inversion lemma per operation that says
everything about its completion and about its blocking. -/

namespace Sys2Proof.Machine

open Sys2Proof

/-! ### Guards -/

theorem Flow.done_iff {s u : State} {b b' : Option (List Byte)} :
    (Flow.done s b = .done u b') ↔ u = s ∧ b' = b := by
  constructor
  · intro h; cases h; exact ⟨rfl, rfl⟩
  · rintro ⟨rfl, rfl⟩; rfl

theorem Flow.blocked_iff {s u : State} : (Flow.blocked s = .blocked u) ↔ u = s := by
  constructor
  · intro h; cases h; rfl
  · rintro rfl; rfl


theorem owned_of_owns {c : Nat} {s : State} {body : Flow} (h : s.owns c = true) :
    owned c s body = body := by simp [owned, h]

theorem owned_not {c : Nat} {s : State} {body : Flow} (h : s.owns c = false) :
    owned c s body = .refuse .notOwner := by simp [owned, h]

theorem ownedIdle_of {c : Nat} {s : State} {body : Flow} (h : s.owns c = true)
    (hb : s.engine.busy = false) : ownedIdle c s body = body := by simp [ownedIdle, owned, h, hb]

theorem ownedIdle_busy {c : Nat} {s : State} {body : Flow} (h : s.owns c = true)
    (hb : s.engine.busy = true) : ownedIdle c s body = .refuse .busy := by simp [ownedIdle, owned, h, hb]

theorem ownedIdle_not {c : Nat} {s : State} {body : Flow} (h : s.owns c = false) :
    ownedIdle c s body = .refuse .notOwner := by simp [ownedIdle, owned, h]

theorem owned_done {c : Nat} {s u : State} {body : Flow} {b : Option (List Byte)} :
    owned c s body = .done u b ↔ s.owns c = true ∧ body = .done u b := by
  unfold owned; split <;> simp_all

theorem owned_blocked {c : Nat} {s u : State} {body : Flow} :
    owned c s body = .blocked u ↔ s.owns c = true ∧ body = .blocked u := by
  unfold owned; split <;> simp_all

theorem ownedIdle_done {c : Nat} {s u : State} {body : Flow} {b : Option (List Byte)} :
    ownedIdle c s body = .done u b ↔
      s.owns c = true ∧ s.engine.busy = false ∧ body = .done u b := by
  unfold ownedIdle; rw [owned_done]; cases s.engine.busy <;> simp

theorem ownedIdle_blocked {c : Nat} {s u : State} {body : Flow} :
    ownedIdle c s body = .blocked u ↔
      s.owns c = true ∧ s.engine.busy = false ∧ body = .blocked u := by
  unfold ownedIdle; rw [owned_blocked]; cases s.engine.busy <;> simp

theorem inRange_done {ok : Bool} {u : State} {body : Flow} {b : Option (List Byte)} :
    inRange ok body = .done u b ↔ ok = true ∧ body = .done u b := by
  unfold inRange; split <;> simp_all

theorem inRange_blocked {ok : Bool} {u : State} {body : Flow} :
    inRange ok body = .blocked u ↔ ok = true ∧ body = .blocked u := by
  unfold inRange; split <;> simp_all

/-- A list is defined at every place exactly when it is the list of some defined values. -/
theorem allDefined_iff {α : Type} {l : List (Option α)} {bs : List α} :
    allDefined l = some bs ↔ l = bs.map some := by
  induction l generalizing bs with
  | nil => cases bs <;> simp [allDefined]
  | cons o l ih =>
    cases o <;> cases bs <;> simp [allDefined, ih, and_comm]

theorem owns_iff {s : State} {c : Nat} :
    s.owns c = true ↔ s.lock.ready = true ∧ s.lock.owner = some c := by
  simp [State.owns]

/-! ### One inversion lemma per operation -/

theorem busInitOp_done {s u : State} {b : Option (List Byte)} :
    busInitOp s = .done u b ↔
      s.lock.ready = false ∧ u = s.withLock ⟨true, none, []⟩ ∧ b = none := by
  unfold busInitOp; split <;> simp_all [Flow.done_iff, -Flow.done.injEq, -Flow.blocked.injEq]

theorem busInitOp_blocked {s u : State} : ¬ busInitOp s = .blocked u := by
  unfold busInitOp; split <;> simp

/-- Without a transaction in flight no call of acquire is refused for it. -/
theorem busyRefused_idle {c dev : Nat} {s : State} (h : s.engine.busy = false) : busyRefused c dev s = false := by
  simp [busyRefused, h]

/-- The owner's call is refused while its transaction is in flight. -/
theorem busyRefused_owner {c dev : Nat} {s : State} (h : s.engine.busy = true) (ho : s.lock.owner = some c) :
    busyRefused c dev s = true := by simp [busyRefused, h, ho]

/-- A client that waits already is not refused, unless it is the owner. -/
theorem busyRefused_waiting {c dev : Nat} {s : State} (ho : s.lock.owner ≠ some c)
    (hw : (c, dev) ∈ s.lock.waiters) : busyRefused c dev s = false := by simp [busyRefused, ho, hw]

/-- A new call of another client while BUSY = 1 is refused or waits as the free constant has it. -/
theorem busyRefused_other {c dev : Nat} {s : State} (h : s.engine.busy = true) (ho : s.lock.owner ≠ some c)
    (hw : (c, dev) ∉ s.lock.waiters) : busyRefused c dev s = !Config.busyAcquireWaits := by
  simp [busyRefused, h, ho, hw]

theorem acquireOp_done {c dev : Nat} {s u : State} {b : Option (List Byte)} :
    acquireOp c dev s = .done u b ↔
      s.lock.ready = true ∧ s.lock.owner = none ∧
        ∃ d, s.devices[dev]? = some d ∧ u = grant c dev d s ∧ b = none := by
  unfold acquireOp
  split
  · simp_all
  · split
    · simp_all
    · split
      · simp_all [Flow.done_iff, -Flow.done.injEq, -Flow.blocked.injEq]
      · split <;> simp_all

theorem acquireOp_blocked {c dev : Nat} {s u : State} :
    acquireOp c dev s = .blocked u ↔
      s.lock.ready = true ∧ s.lock.owner ≠ none ∧ busyRefused c dev s = false ∧
        (∃ d, s.devices[dev]? = some d) ∧ u = s.withLock { s.lock with waiters := insertWaiter (c, dev) s.lock.waiters } := by
  unfold acquireOp
  split
  · simp_all
  · split
    · simp_all
    · split
      · simp_all
      · split <;> simp_all [Flow.blocked_iff, -Flow.done.injEq, -Flow.blocked.injEq]

theorem releaseOp_done {c : Nat} {s u : State} {b : Option (List Byte)} :
    releaseOp c s = .done u b ↔
      s.owns c = true ∧ s.engine.busy = false ∧ u = s.withLock { s.lock with owner := none } ∧ b = none := by
  simp [releaseOp, ownedIdle_done, Flow.done_iff, -Flow.done.injEq]

theorem setClockOp_done {c : Nat} {w : ClockWord} {s u : State} {b : Option (List Byte)} :
    setClockOp c w s = .done u b ↔
      s.owns c = true ∧ s.engine.busy = false ∧
        u = s.withLatch { s.latch with clock := some w } ∧ b = none := by
  simp [setClockOp, ownedIdle_done, Flow.done_iff, -Flow.done.injEq]

theorem driveCs_done {c : Nat} {v : CsLine} {s u : State} {b : Option (List Byte)} :
    driveCs c v s = .done u b ↔
      s.owns c = true ∧ s.engine.busy = false ∧ s.latch.csMode = some .software ∧
        u = s.withCs v ∧ b = none := by
  unfold driveCs
  rw [ownedIdle_done]
  split <;> simp_all [Flow.done_iff, -Flow.done.injEq, -Flow.blocked.injEq]

theorem resetOp_done {c : Nat} {s u : State} {b : Option (List Byte)} :
    resetOp c s = .done u b ↔
      s.owns c = true ∧ s.engine.busy = false ∧ u = s.withEngine s.engine.cleared ∧ b = none := by
  simp [resetOp, ownedIdle_done, Flow.done_iff, -Flow.done.injEq]

theorem setCommandOp_done {c len : Nat} {v : BitVec 16} {s u : State} {b : Option (List Byte)} :
    setCommandOp c len v s = .done u b ↔
      s.owns c = true ∧ s.engine.busy = false ∧ (1 ≤ len ∧ len ≤ 16 ∧ v.toNat < 2 ^ len) ∧
        u = s.withEngine { s.engine with cmdEn := some true, cmdLen := some len, cmdVal := some v } ∧
        b = none := by
  simp [setCommandOp, ownedIdle_done, inRange_done, Flow.done_iff, -Flow.done.injEq, and_assoc]

theorem setAddressOp_done {c len : Nat} {v : BitVec 32} {s u : State} {b : Option (List Byte)} :
    setAddressOp c len v s = .done u b ↔
      s.owns c = true ∧ s.engine.busy = false ∧ (1 ≤ len ∧ len ≤ 32 ∧ v.toNat < 2 ^ len) ∧
        u = s.withEngine { s.engine with addrEn := some true, addrLen := some len, addrVal := some v } ∧
        b = none := by
  simp [setAddressOp, ownedIdle_done, inRange_done, Flow.done_iff, -Flow.done.injEq, and_assoc]

theorem setOutputOp_done {c len : Nat} {bs : List Byte} {s u : State} {b : Option (List Byte)} :
    setOutputOp c len bs s = .done u b ↔
      s.owns c = true ∧ s.engine.busy = false ∧ (1 ≤ len ∧ len ≤ 512 ∧ bs.length = ceil8 len) ∧
        u = s.withEngine
          { s.engine with outEn := some true, outLen := some len, outBuf := outBufOf bs } ∧
        b = none := by
  simp [setOutputOp, ownedIdle_done, inRange_done, Flow.done_iff, -Flow.done.injEq, and_assoc]

theorem setOutputPatternOp_done {c len : Nat} {w : BitVec 32} {s u : State} {b : Option (List Byte)} :
    setOutputPatternOp c len w s = .done u b ↔
      s.owns c = true ∧ s.engine.busy = false ∧ (1 ≤ len ∧ len ≤ 512) ∧
        u = s.withEngine
          { s.engine with outEn := some true, outLen := some len, outBuf := patternBuf w } ∧
        b = none := by
  simp [setOutputPatternOp, ownedIdle_done, inRange_done, Flow.done_iff, -Flow.done.injEq, and_assoc]

theorem configureExecOp_done {c d r : Nat} {beo bei : Bool} {s u : State} {b : Option (List Byte)} :
    configureExecOp c beo d r bei s = .done u b ↔
      s.owns c = true ∧ s.engine.busy = false ∧ (d ≤ 256 ∧ r ≤ 512) ∧
        u = s.withEngine
          { s.engine with outBe := some beo, dummyLen := some d, inLen := some r, inBe := some bei } ∧
        b = none := by
  simp [configureExecOp, ownedIdle_done, inRange_done, Flow.done_iff, -Flow.done.injEq, and_assoc]

theorem executeOp_done {c : Nat} {s u : State} {b : Option (List Byte)} :
    executeOp c s = .done u b ↔
      s.owns c = true ∧ s.engine.busy = false ∧ ∃ bo cm bits dl il,
        s.latch.bitOrder = some bo ∧ s.latch.csMode = some cm ∧
        s.engine.phases bo = some (bits, dl, il) ∧ s.engine.badBeLength = false ∧
        u = s.started (snapOf bits dl il (decide (s.engine.inBe = some true)) bo cm) ∧ b = none := by
  unfold executeOp
  rw [ownedIdle_done]
  split
  · split
    · simp_all
    · split <;> simp_all [Flow.done_iff, -Flow.done.injEq, -Flow.blocked.injEq]
  · simp_all

theorem waitOp_done {c : Nat} {s u : State} {b : Option (List Byte)} :
    waitOp c s = .done u b ↔ s.owns c = true ∧ s.engine.busy = false ∧ u = s ∧ b = none := by
  unfold waitOp
  rw [owned_done]
  split <;> simp_all [Flow.done_iff, -Flow.done.injEq, -Flow.blocked.injEq]

theorem waitOp_blocked {c : Nat} {s u : State} :
    waitOp c s = .blocked u ↔ s.owns c = true ∧ s.engine.busy = true ∧ u = s := by
  unfold waitOp
  rw [owned_blocked]
  split <;> simp_all [Flow.blocked_iff, -Flow.done.injEq, -Flow.blocked.injEq]

theorem readResultOp_done {c : Nat} {s u : State} {b : Option (List Byte)} :
    readResultOp c s = .done u b ↔
      s.owns c = true ∧ s.engine.busy = false ∧ u = s ∧
        ∃ n bs, s.xferInLen = some n ∧ allDefined (s.engine.inBuf.take (ceil8 n)) = some bs ∧
          b = some bs := by
  unfold readResultOp
  rw [owned_done]
  split
  · simp_all
  · split
    · simp_all
    · split <;> simp_all [Flow.done_iff, -Flow.done.injEq, -Flow.blocked.injEq]

theorem readResultOp_blocked {c : Nat} {s u : State} :
    readResultOp c s = .blocked u ↔
      s.owns c = true ∧ s.engine.busy = true ∧ u = s ∧ ∃ n, s.xferInLen = some n := by
  unfold readResultOp
  rw [owned_blocked]
  split
  · simp_all
  · split
    · simp_all [Flow.blocked_iff, -Flow.done.injEq, -Flow.blocked.injEq]
    · split <;> simp_all

/-- What the pins are given has `DEMUX_BITS` bits. -/
theorem State.selector_lt (s : State) (d : Device) : s.selector d < 2 ^ s.cfg.demuxBits :=
  Nat.mod_lt _ (Nat.two_pow_pos _)

/-- The start of something that needs an owned, idle bus is a refusal, or what is started. -/
theorem requireIdleBus_of {s : State} {k : Outcome} (h : s.owns s.cur = true) (hb : s.engine.busy = false) :
    requireIdleBus s k = k := by simp [requireIdleBus, ownedIdle, owned, h, hb]

theorem requireIdleBus_not {s : State} {k : Outcome} (h : ¬ (s.owns s.cur = true ∧ s.engine.busy = false)) :
    ∃ r, requireIdleBus s k = .refused r := by
  unfold requireIdleBus
  cases ho : s.owns s.cur
  · exact ⟨_, by rw [ownedIdle_not ho]⟩
  · cases hb : s.engine.busy
    · exact absurd ⟨ho, hb⟩ h
    · exact ⟨_, by rw [ownedIdle_busy ho hb]⟩

/-- Only `acquire`, `wait` and `read_result` block. -/
theorem engineOp_blocked {c : Nat} {op : EngineOp} {s u : State} (h : engineOp c op s = .blocked u) :
    (∃ dev, op = .acquire dev) ∨ ((op = .wait ∨ op = .readTmp) ∧ u = s) := by
  cases op <;> simp only [engineOp] at h
  case acquire dev => exact .inl ⟨dev, rfl⟩
  case wait => exact .inr ⟨.inl rfl, (waitOp_blocked.1 h).2.2⟩
  case readTmp => exact .inr ⟨.inr rfl, (readResultOp_blocked.1 h).2.2.1⟩
  all_goals
    simp only [releaseOp, setClockOp, csAssertOp, csDeassertOp, driveCs, resetOp, setCommandOp, setAddressOp,
      setOutputOp, setOutputPatternOp, configureExecOp, executeOp, ownedIdle_blocked, inRange_blocked] at h
    obtain ⟨-, -, h⟩ := h
    first
      | (obtain ⟨-, h⟩ := h; cases h)
      | (cases h)
      | (revert h; repeat' split) <;> simp

/-! ### What an engine operation never changes -/

/-- The parts of the state that no engine operation writes: the parameters, the devices (R224), the clients,
caller memory, TIME, the environment's answers and whose step it is. -/
structure SameOutside (s u : State) : Prop where
  cfg : u.cfg = s.cfg
  devices : u.devices = s.devices
  clients : u.clients = s.clients
  mem : u.mem = s.mem
  time : u.time = s.time
  env : u.env = s.env
  cur : u.cur = s.cur

theorem engineOp_done_outside {c : Nat} {op : EngineOp} {s u : State} {b : Option (List Byte)}
    (h : engineOp c op s = .done u b) : SameOutside s u := by
  cases op <;> simp only [engineOp, csAssertOp, csDeassertOp] at h
  case acquire => obtain ⟨-, -, d, -, rfl, -⟩ := acquireOp_done.1 h; constructor <;> rfl
  case release => obtain ⟨-, -, rfl, -⟩ := releaseOp_done.1 h; constructor <;> rfl
  case setClock => obtain ⟨-, -, rfl, -⟩ := setClockOp_done.1 h; constructor <;> rfl
  case csAssert => obtain ⟨-, -, -, rfl, -⟩ := driveCs_done.1 h; constructor <;> rfl
  case csDeassert => obtain ⟨-, -, -, rfl, -⟩ := driveCs_done.1 h; constructor <;> rfl
  case reset => obtain ⟨-, -, rfl, -⟩ := resetOp_done.1 h; constructor <;> rfl
  case setCommand => obtain ⟨-, -, -, rfl, -⟩ := setCommandOp_done.1 h; constructor <;> rfl
  case setAddress => obtain ⟨-, -, -, rfl, -⟩ := setAddressOp_done.1 h; constructor <;> rfl
  case setOutput => obtain ⟨-, -, -, rfl, -⟩ := setOutputOp_done.1 h; constructor <;> rfl
  case setOutputPattern => obtain ⟨-, -, -, rfl, -⟩ := setOutputPatternOp_done.1 h; constructor <;> rfl
  case configureExec => obtain ⟨-, -, -, rfl, -⟩ := configureExecOp_done.1 h; constructor <;> rfl
  case execute =>
    obtain ⟨-, -, _, _, _, _, _, -, -, -, -, rfl, -⟩ := executeOp_done.1 h; constructor <;> rfl
  case wait => obtain ⟨-, -, rfl, -⟩ := waitOp_done.1 h; constructor <;> rfl
  case readTmp => obtain ⟨-, -, rfl, -⟩ := readResultOp_done.1 h; constructor <;> rfl

theorem engineOp_blocked_outside {c : Nat} {op : EngineOp} {s u : State}
    (h : engineOp c op s = .blocked u) : SameOutside s u := by
  obtain ⟨dev, rfl⟩ | ⟨-, rfl⟩ := engineOp_blocked h
  · obtain ⟨-, -, -, -, rfl⟩ := acquireOp_blocked.1 h; constructor <;> rfl
  · constructor <;> rfl

end Sys2Proof.Machine
end

