-- ==== Sys2Proof/Laws/Memory.lean ====
section
/-! SUPPORT. Caller memory: every operation keeps the canonical form, a byte read after it was written is the
byte written, and a write leaves every other byte alone. -/

namespace Sys2Proof.Machine.Memory

open Sys2Proof

/-! ### The canonical form -/

theorem wfAbove_write {lo a : Nat} {b : Byte} {m : List Host.Cell} (hlo : lo < a)
    (h : wfAbove lo m = true) : wfAbove lo (write m a b) = true := by
  induction m generalizing lo with
  | nil =>
    by_cases hb : b = unlisted <;> simp [write, wfAbove, hb, hlo]
  | cons c m ih =>
    obtain ⟨k, v⟩ := c
    simp only [wfAbove, Bool.and_eq_true, decide_eq_true_eq, bne_iff_ne, ne_eq] at h
    obtain ⟨⟨h1, h2⟩, h3⟩ := h
    simp only [write]
    split
    · by_cases hb : b = unlisted <;> simp_all [wfAbove]
    · split
      · subst_vars
        by_cases hb : b = unlisted
        · simp only [hb, if_true]
          cases m with
          | nil => rfl
          | cons c m =>
            obtain ⟨k', v'⟩ := c
            simp only [wfAbove, Bool.and_eq_true, decide_eq_true_eq, bne_iff_ne, ne_eq] at h3 ⊢
            exact ⟨⟨by omega, h3.1.2⟩, h3.2⟩
        · simp [wfAbove, hb, h1, h3]
      · have hk : k < a := by omega
        simp [wfAbove, h1, h2, ih hk h3]

theorem wf_of_wfAbove {lo : Nat} {m : List Host.Cell} (h : wfAbove lo m = true) : wf m = true := by
  cases m with
  | nil => rfl
  | cons c m =>
    obtain ⟨k, v⟩ := c
    simp only [wfAbove, wf, Bool.and_eq_true, decide_eq_true_eq] at h ⊢
    exact ⟨h.1.2, h.2⟩

/-- A write keeps the canonical form. -/
theorem wf_write {m : List Host.Cell} (a : Nat) (b : Byte) (h : wf m = true) : wf (write m a b) = true := by
  cases m with
  | nil => by_cases hb : b = unlisted <;> simp [write, wf, wfAbove, hb]
  | cons c m =>
    obtain ⟨k, v⟩ := c
    simp only [wf, Bool.and_eq_true, bne_iff_ne, ne_eq] at h
    obtain ⟨h1, h2⟩ := h
    simp only [write]
    split
    · by_cases hb : b = unlisted <;> simp_all [wf, wfAbove]
    · split
      · subst_vars
        by_cases hb : b = unlisted
        · simpa [hb] using wf_of_wfAbove h2
        · simp [wf, hb, h2]
      · have hk : k < a := by omega
        simp [wf, h1, wfAbove_write hk h2]

/-- Writing a stretch of bytes keeps the canonical form. -/
theorem wf_writeBytes {m : List Host.Cell} (base : Nat) (bs : List Byte) (h : wf m = true) :
    wf (writeBytes m base bs) = true := by
  induction bs generalizing m base with
  | nil => exact h
  | cons b bs ih => exact ih _ (wf_write _ _ h)

/-! ### Reading what was written -/

theorem read_of_wfAbove {lo a : Nat} {m : List Host.Cell} (h : wfAbove lo m = true) (ha : a ≤ lo) :
    read m a = unlisted := by
  induction m generalizing lo with
  | nil => rfl
  | cons c m ih =>
    obtain ⟨k, v⟩ := c
    simp only [wfAbove, Bool.and_eq_true, decide_eq_true_eq] at h
    have : a ≠ k := by omega
    simp [read, this, ih h.2 (by omega)]

theorem read_write_above {lo a : Nat} {b : Byte} {m : List Host.Cell} (h : wfAbove lo m = true)
    (x : Nat) : read (write m a b) x = if x = a then b else read m x := by
  induction m generalizing lo with
  | nil => by_cases hb : b = unlisted <;> by_cases hx : x = a <;> simp [write, read, hb, hx]
  | cons c m ih =>
    obtain ⟨k, v⟩ := c
    simp only [wfAbove, Bool.and_eq_true, decide_eq_true_eq] at h
    obtain ⟨⟨h1, h2⟩, h3⟩ := h
    simp only [write]
    split
    · by_cases hb : b = unlisted
      · by_cases hx : x = a
        · have : a ≠ k := by omega
          simp [read, hb, hx, this, read_of_wfAbove h3 (by omega : a ≤ k)]
        · simp [hb, hx]
      · by_cases hx : x = a <;> simp [read, hb, hx]
    · split
      · subst_vars
        by_cases hb : b = unlisted
        · by_cases hx : x = k
          · simp [hb, hx, read_of_wfAbove h3 (Nat.le_refl k)]
          · simp [read, hb, hx]
        · by_cases hx : x = k <;> simp [read, hb, hx]
      · by_cases hx : x = k
        · have : ¬ k = a := fun e => by omega
          simp [read, hx, this]
        · simp [read, hx, ih h3]

/-- What every address reads as after a write. -/
theorem read_write {m : List Host.Cell} (h : wf m = true) (a : Nat) (b : Byte) (x : Nat) :
    read (write m a b) x = if x = a then b else read m x := by
  cases m with
  | nil => by_cases hb : b = unlisted <;> by_cases hx : x = a <;> simp [write, read, hb, hx]
  | cons c m =>
    obtain ⟨k, v⟩ := c
    simp only [wf, Bool.and_eq_true] at h
    obtain ⟨h1, h3⟩ := h
    simp only [write]
    split
    · by_cases hb : b = unlisted
      · by_cases hx : x = a
        · have : a ≠ k := by omega
          simp [read, hb, hx, this, read_of_wfAbove h3 (by omega : a ≤ k)]
        · simp [hb, hx]
      · by_cases hx : x = a <;> simp [read, hb, hx]
    · split
      · subst_vars
        by_cases hb : b = unlisted
        · by_cases hx : x = k
          · simp [hb, hx, read_of_wfAbove h3 (Nat.le_refl k)]
          · simp [read, hb, hx]
        · by_cases hx : x = k <;> simp [read, hb, hx]
      · by_cases hx : x = k
        · have : ¬ k = a := fun e => by omega
          simp [read, hx, this]
        · simp [read, hx, read_write_above h3]

/-- A byte outside the written stretch reads as before. -/
theorem read_writeBytes_outside {m : List Host.Cell} (h : wf m = true) (base : Nat) (bs : List Byte)
    (x : Nat) (hx : x < base ∨ base + bs.length ≤ x) : read (writeBytes m base bs) x = read m x := by
  induction bs generalizing m base with
  | nil => rfl
  | cons b bs ih =>
    simp only [List.length_cons] at hx
    rw [writeBytes, ih (wf_write _ _ h) _ (by omega), read_write h]
    have : x ≠ base := by omega
    simp [this]

/-- A byte of the written stretch reads as the byte written there. -/
theorem read_writeBytes_inside {m : List Host.Cell} (h : wf m = true) (base : Nat) (bs : List Byte)
    (k : Nat) (hk : k < bs.length) : read (writeBytes m base bs) (base + k) = bs[k] := by
  induction bs generalizing m base k with
  | nil => simp at hk
  | cons b bs ih =>
    cases k with
    | zero =>
      rw [writeBytes, read_writeBytes_outside (wf_write _ _ h) _ _ _ (by omega)]
      simp [read_write h]
    | succ k =>
      have := ih (wf_write base b h) (base + 1) k (by simpa using hk)
      rw [writeBytes, show base + (k + 1) = base + 1 + k by omega, this]
      simp

@[simp] theorem readBytes_length (m : List Host.Cell) (base n : Nat) : (readBytes m base n).length = n := by
  induction n generalizing base with
  | zero => rfl
  | succ n ih => simp [readBytes, ih]

/-- Reading back a written stretch gives the bytes written. -/
theorem readBytes_writeBytes {m : List Host.Cell} (h : wf m = true) (base : Nat) (bs : List Byte) :
    readBytes (writeBytes m base bs) base bs.length = bs := by
  induction bs generalizing m base with
  | nil => rfl
  | cons b bs ih =>
    have h0 := read_writeBytes_inside h base (b :: bs) 0 (by simp)
    simp only [List.length_cons, readBytes]
    rw [writeBytes] at h0 ⊢
    rw [ih (wf_write _ _ h)]
    simpa using h0

end Sys2Proof.Machine.Memory

namespace Sys2Proof.Machine

/-! ### Caller buffers -/

/-- What a buffer write does: the memory changes by those bytes, and nothing else changes. -/
theorem State.writeBuffer_some {s u : State} {base : Nat} {bs : List Byte}
    (h : s.writeBuffer base bs = some u) : u = s.withMem (Memory.writeBytes s.mem base bs) := by
  unfold State.writeBuffer at h
  split at h
  · simp at h
  · exact (Option.some.inj h).symm

/-- What a buffer read gives. -/
theorem State.readBuffer_some {s : State} {base n : Nat} {bs : List Byte}
    (h : s.readBuffer base n = some bs) : bs = Memory.readBytes s.mem base n := by
  unfold State.readBuffer at h
  split at h
  · simp at h
  · exact (Option.some.inj h).symm

end Sys2Proof.Machine
end

