-- ==== Sys2Proof/Laws/Effect.lean ====
section
/-! SUPPORT. Everything one step of a client can do, said once: `exec_effect`. -/

namespace Sys2Proof.Machine

open Sys2Proof

/-! ### Properties of the next state -/

/-- If this outcome is a next state, it has property `P`. -/
def AllNext (P : State → Prop) (o : Outcome) : Prop := ∀ t, o = .next t → P t

@[simp] theorem allNext_next {P : State → Prop} {t : State} : AllNext P (.next t) ↔ P t := by
  constructor
  · intro h; exact h t rfl
  · intro h u hu; cases hu; exact h

@[simp] theorem allNext_refused {P : State → Prop} {r : Refusal} : AllNext P (.refused r) := by
  intro t h; cases h

@[simp] theorem allNext_goOn {P : State → Prop} {s : State} {x : Ctx} :
    AllNext P (s.goOn x) ↔ P (s.withCtx x) := allNext_next

theorem allNext_ite {P : State → Prop} {c : Prop} [Decidable c] {a b : Outcome}
    (ha : AllNext P a) (hb : AllNext P b) : AllNext P (if c then a else b) := by split <;> assumption

theorem allNext_ite_of {P : State → Prop} {c : Prop} [Decidable c] {a b : Outcome}
    (ha : c → AllNext P a) (hb : AllNext P b) : AllNext P (if c then a else b) := by
  split
  · next h => exact ha h
  · exact hb

/-! ### The relation -/

/-- The two states differ only in the record of the client whose step it is, in the environment's answers,
and in TIME, which does not go back. -/
structure Quiet (s t : State) : Prop where
  cfg : t.cfg = s.cfg
  lock : t.lock = s.lock
  engine : t.engine = s.engine
  xfer : t.xferInLen = s.xferInLen
  snap : t.snap = s.snap
  latch : t.latch = s.latch
  lines : t.lines = s.lines
  devices : t.devices = s.devices
  mem : t.mem = s.mem
  cur : t.cur = s.cur
  time : s.time ≤ t.time
  others : ∀ c, c ≠ s.cur → t.clients[c]? = s.clients[c]?
  count : t.clients.length = s.clients.length

theorem Quiet.refl (s : State) : Quiet s s where
  cfg := rfl
  lock := rfl
  engine := rfl
  xfer := rfl
  snap := rfl
  latch := rfl
  lines := rfl
  devices := rfl
  mem := rfl
  cur := rfl
  time := Nat.le_refl _
  others := fun _ _ => rfl
  count := rfl

theorem Quiet.trans {s t u : State} (h : Quiet s t) (k : Quiet t u) : Quiet s u where
  cfg := k.cfg.trans h.cfg
  lock := k.lock.trans h.lock
  engine := k.engine.trans h.engine
  xfer := k.xfer.trans h.xfer
  snap := k.snap.trans h.snap
  latch := k.latch.trans h.latch
  lines := k.lines.trans h.lines
  devices := k.devices.trans h.devices
  mem := k.mem.trans h.mem
  cur := k.cur.trans h.cur
  time := Nat.le_trans h.time k.time
  others := fun c hc => (k.others c (by rw [h.cur]; exact hc)).trans (h.others c hc)
  count := k.count.trans h.count

theorem quiet_changeClient (s : State) (f : Client → Client) : Quiet s (s.changeClient s.cur f) where
  cfg := rfl
  lock := rfl
  engine := rfl
  xfer := rfl
  snap := rfl
  latch := rfl
  lines := rfl
  devices := rfl
  mem := rfl
  cur := rfl
  time := Nat.le_refl _
  others := fun _ hc => by simp [changeAt_other _ _ hc]
  count := by simp

theorem quiet_withCtx (s : State) (x : Ctx) : Quiet s (s.withCtx x) := quiet_changeClient s _

theorem quiet_complete (s : State) (r : Result) : Quiet s (s.complete r) := quiet_changeClient s _

theorem quiet_now (s : State) : Quiet s s.now.2 where
  cfg := by simp
  lock := by simp
  engine := by simp
  xfer := by simp
  snap := by simp
  latch := by simp
  lines := by simp
  devices := by simp
  mem := by simp
  cur := by simp
  time := by simpa using s.time_le_now
  others := by simp
  count := by simp

theorem quiet_drawCapacity (s : State) : Quiet s s.drawCapacity.2 := by
  constructor <;> simp

/-- What a step of the client `s.cur` does beside its own record: nothing; one engine operation, which
completes or blocks; the creation of the lock; a store to caller memory (where `st`); or, in an
initialization (where `init`), a write of a device's flag or session. -/
inductive Effect (init st : Bool) (s t : State) : Prop
  | quiet (h : Quiet s t)
  | engine (op : EngineOp) (u : State) (b : Option (List Byte))
      (run : engineOp s.cur op s = .done u b) (h : Quiet u t)
  | blocked (op : EngineOp) (u : State) (run : engineOp s.cur op s = .blocked u) (h : Quiet u t)
  | lock (u : State) (b : Option (List Byte)) (run : busInitOp s = .done u b) (h : Quiet u t)
  | store (allowed : st = true) (base : Nat) (bs : List Byte) (u : State)
      (run : s.writeBuffer base bs = some u) (h : Quiet u t)
  | session (allowed : init = true) (d : Nat) (se : Session) (h : Quiet (s.withSession d se) t)
  | flag (allowed : init = true) (d : Nat) (h : Quiet (s.withHc d true) t)
  | clear (allowed : init = true) (d : Nat)
      (h : Quiet ((s.withHc d false).withSession d .uninitialized) t)

section

variable {init st : Bool}

/-! ### The building blocks -/

theorem effect_goOn (s : State) (x : Ctx) : AllNext (Effect init st s) (s.goOn x) :=
  allNext_goOn.2 (.quiet (quiet_withCtx s x))

theorem effect_now_goOn (s : State) (x : Ctx) : AllNext (Effect init st s) (s.now.2.goOn x) :=
  allNext_goOn.2 (.quiet ((quiet_now s).trans (quiet_withCtx _ x)))

theorem effect_complete (s : State) (r : Result) : AllNext (Effect init st s) (.next (s.complete r)) :=
  allNext_next.2 (.quiet (quiet_complete s r))

theorem effect_runMicro (s : State) (x : Ctx) (op : EngineOp) (rest : List EngineOp) :
    AllNext (Effect init st s) (runMicro s x op rest) := by
  unfold runMicro
  split
  · next u b h => exact allNext_goOn.2 (.engine op u b h (quiet_withCtx _ _))
  · next u h => exact allNext_goOn.2 (.blocked op u h (quiet_withCtx _ _))
  · exact allNext_refused

theorem effect_request (s : State) (op : EngineOp) :
    AllNext (Effect init st s) (engineOp s.cur op s).request := by
  cases h : engineOp s.cur op s with
  | done u b => exact allNext_next.2 (.engine op u b h (quiet_complete _ _))
  | blocked u => exact allNext_next.2 (.blocked op u h (Quiet.refl _))
  | refuse r => exact allNext_refused

theorem effect_requireIdleBus (s : State) (k : Outcome) (h : AllNext (Effect init st s) k) :
    AllNext (Effect init st s) (requireIdleBus s k) := by
  unfold requireIdleBus
  split
  · exact allNext_refused
  · exact h

/-! ### The primitives -/

theorem effect_startPollBusy (s : State) (x : Ctx) (f : Bool) (limit : Nat) :
    AllNext (Effect init st s) (startPollBusy s x f limit) := effect_now_goOn _ _

theorem effect_startCommand (s : State) (x : Ctx) (c : Command) :
    AllNext (Effect init st s) (startCommand s x c) := effect_startPollBusy _ _ _ _

theorem effect_startPollToken (s : State) (x : Ctx) (limit : Nat) :
    AllNext (Effect init st s) (startPollToken s x limit) := effect_now_goOn _ _

theorem effect_startDataResponse (s : State) (x : Ctx) :
    AllNext (Effect init st s) (startDataResponse s x) := effect_goOn _ _

theorem effect_startStreamIn (s : State) (x : Ctx) (dst : Dest) (n : Nat) :
    AllNext (Effect init st s) (startStreamIn s x dst n) := effect_goOn _ _

theorem effect_startXferOut (s : State) (x : Ctx) (bs : List Byte) :
    AllNext (Effect init st s) (startXferOut s x bs) := effect_goOn _ _

theorem effect_sendChunk (s : State) (x : Ctx) (base off left : Nat) :
    AllNext (Effect init st s) (sendChunk s x base off left) := by
  simp only [sendChunk]
  split
  · exact allNext_refused
  · exact effect_goOn _ _

theorem effect_pollAgain (s : State) (x : Ctx) : AllNext (Effect init st s) (pollAgain s x) := by
  unfold pollAgain
  split
  · exact effect_now_goOn _ _
  · exact allNext_refused
  · exact allNext_refused

theorem effect_busyByte (s : State) (x : Ctx) : AllNext (Effect init st s) (busyByte s x) :=
  effect_pollAgain s x

theorem effect_notBusy (s : State) (x : Ctx) (f : Bool) : AllNext (Effect init st s) (notBusy s x f) := by
  unfold notBusy
  split
  · split
    · exact allNext_refused
    · exact effect_goOn _ _
  · exact effect_goOn _ _

theorem effect_windowMiss (s : State) (x : Ctx) (n : Nat) :
    AllNext (Effect init st s) (windowMiss s x n) := effect_goOn _ _

theorem effect_takeStatus (s : State) (x : Ctx) (r : Byte) :
    AllNext (Effect init st s) (takeStatus s x r) := by
  unfold takeStatus
  split
  · exact allNext_refused
  · exact effect_goOn _ _

theorem effect_takeExtended (s : State) (x : Ctx) (r : Byte) (e : BitVec 32) :
    AllNext (Effect init st s) (takeExtended s x r e) := effect_goOn _ _

theorem effect_tokenFiller (s : State) (x : Ctx) : AllNext (Effect init st s) (tokenFiller s x) :=
  effect_pollAgain s x

theorem effect_tokenFound (s : State) (x : Ctx) : AllNext (Effect init st s) (tokenFound s x) :=
  effect_goOn _ _

theorem effect_tokenError (s : State) (x : Ctx) : AllNext (Effect init st s) (tokenError s x) :=
  effect_goOn _ _

theorem effect_chunkOut (s : State) (x : Ctx) (base off left : Nat) :
    AllNext (Effect init st s) (chunkOut s x base off left) :=
  allNext_ite (effect_goOn _ _) (effect_sendChunk _ _ _ _ _)

/-- A chunk that has been read is stored where the operation may store, or where its destination is no
caller memory. -/
theorem effect_chunkIn (s : State) (x : Ctx) (dst : Dest) (off left : Nat)
    (h : st = true ∨ ∀ base, dst ≠ .memory base) :
    AllNext (Effect init st s) (chunkIn s x dst off left) := by
  unfold chunkIn
  cases dst with
  | memory base =>
    have hst : st = true := h.resolve_right fun h => h base rfl
    simp only [storeAt]
    cases hw : s.writeBuffer (base + off) x.tmp with
    | none => exact allNext_refused
    | some u => exact allNext_goOn.2 (.store hst _ _ u hw (quiet_withCtx _ _))
  | image => exact effect_goOn _ _
  | scratch => exact effect_goOn _ _

/-! ### The rows a card's answer can be -/

theorem effect_receiving (s : State) (k : Ctx → Outcome)
    (h : ∀ x, AllNext (Effect init st s) (k x)) : AllNext (Effect init st s) (receiving s k) := by
  unfold receiving
  split
  · exact allNext_ite (h _) allNext_refused
  · exact allNext_refused

theorem effect_execR1Status (v : BitVec 7) (s : State) : AllNext (Effect init st s) (execR1Status v s) := by
  refine effect_receiving s _ fun x => ?_
  split
  · exact effect_takeStatus _ _ _
  · exact allNext_refused

theorem effect_execR3StatusOcr (v : BitVec 7) (o : BitVec 32) (s : State) :
    AllNext (Effect init st s) (execR3StatusOcr v o s) := by
  refine effect_receiving s _ fun x => ?_
  split
  · exact allNext_ite (effect_takeExtended _ _ _ _) allNext_refused
  · exact allNext_refused

theorem effect_execR7StatusEcho (v : BitVec 7) (hi : BitVec 20) (e : BitVec 12) (s : State) :
    AllNext (Effect init st s) (execR7StatusEcho v hi e s) := by
  refine effect_receiving s _ fun x => ?_
  split
  · exact allNext_ite (effect_takeExtended _ _ _ _) allNext_refused
  · exact allNext_refused

theorem effect_execFillerNotBusy (s : State) : AllNext (Effect init st s) (execFillerNotBusy s) := by
  refine effect_receiving s _ fun x => ?_
  split
  · exact effect_notBusy _ _ _
  · exact effect_tokenFiller _ _
  · exact effect_windowMiss _ _ _
  · exact effect_goOn _ _
  · exact allNext_refused

theorem effect_receiveToken (s : State) (x : Ctx) (o : Outcome) (h : AllNext (Effect init st s) o) :
    AllNext (Effect init st s) (receiveToken s x o) := by
  unfold receiveToken
  split
  · exact effect_busyByte _ _
  · exact effect_windowMiss _ _ _
  · exact h
  · exact effect_goOn _ _
  · exact allNext_refused

theorem effect_tokenRow (tok : Byte) (k : State → Ctx → Outcome) (s : State)
    (h : ∀ x, AllNext (Effect init st s) (k s x)) : AllNext (Effect init st s) (tokenRow tok k s) := by
  unfold tokenRow
  split
  · exact effect_requireIdleBus _ _ (effect_startXferOut _ _ _)
  · next x _ =>
    split
    · exact allNext_ite (effect_runMicro _ _ _ _) allNext_refused
    · split
      · exact effect_startXferOut _ _ _
      · exact allNext_ite (effect_complete _ _) allNext_refused
      · exact effect_receiveToken _ _ _ (h x)

theorem effect_execDataStartToken (s : State) : AllNext (Effect init st s) (execDataStartToken s) :=
  effect_tokenRow _ _ _ fun x => effect_tokenFound s x

theorem effect_execMultiBlockWriteStartToken (s : State) :
    AllNext (Effect init st s) (execMultiBlockWriteStartToken s) :=
  effect_tokenRow _ _ _ fun x => effect_tokenError s x

theorem effect_execMultiBlockStopToken (s : State) :
    AllNext (Effect init st s) (execMultiBlockStopToken s) :=
  effect_tokenRow _ _ _ fun x => effect_tokenError s x

theorem effect_execDataResponseAccepted (v : BitVec 4) (s : State) :
    AllNext (Effect init st s) (execDataResponseAccepted v s) := by
  refine effect_receiving s _ fun x => ?_
  split
  · exact effect_goOn _ _
  · exact allNext_refused

theorem effect_execDataResponseRejected (v n : BitVec 4) (s : State) :
    AllNext (Effect init st s) (execDataResponseRejected v n s) := by
  refine effect_receiving s _ fun x => ?_
  split
  · exact effect_goOn _ _
  · exact allNext_refused

/-! ### The sequencer -/

theorem effect_receivePoll (s : State) (x : Ctx) : AllNext (Effect init st s) (receivePoll s x) := by
  unfold receivePoll
  split
  · exact effect_execFillerNotBusy _
  · exact effect_execDataStartToken _
  · exact effect_execMultiBlockWriteStartToken _
  · exact effect_execMultiBlockStopToken _
  · unfold strayByte
    split
    · exact effect_busyByte _ _
    · exact effect_tokenError _ _

theorem effect_receiveWindow (s : State) (x : Ctx) (n : Nat) :
    AllNext (Effect init st s) (receiveWindow s x n) := by
  unfold receiveWindow
  split
  · exact effect_execR1Status _ _
  · exact effect_windowMiss _ _ _

theorem effect_receiveExtended (s : State) (x : Ctx) :
    AllNext (Effect init st s) (receiveExtended s x) := by
  unfold receiveExtended
  split
  · split
    · exact effect_execR3StatusOcr _ _ _
    · exact effect_execR7StatusEcho _ _ _ _
    · exact allNext_refused
  · exact allNext_refused
  · exact allNext_refused

theorem effect_receiveDataResponse (s : State) (x : Ctx) :
    AllNext (Effect init st s) (receiveDataResponse s x) := by
  unfold receiveDataResponse
  split
  · exact effect_execDataResponseAccepted _ _
  · exact effect_execDataResponseRejected _ _ _
  · exact allNext_refused

/-- A stream of received bytes goes to caller memory only in an operation that stores. -/
def Ctx.storing (x : Ctx) : Prop := ∃ base off left, x.phase = .streamIn (.memory base) off left

theorem effect_primitiveStep (s : State) (x : Ctx) (h : st = true ∨ ¬ x.storing) :
    AllNext (Effect init st s) (primitiveStep s x) := by
  unfold primitiveStep
  split
  · exact effect_receivePoll _ _
  · exact effect_receivePoll _ _
  · exact effect_goOn _ _
  · exact effect_receiveWindow _ _ _
  · exact effect_receiveExtended _ _
  · exact effect_receiveDataResponse _ _
  · next hp =>
    refine effect_chunkIn _ _ _ _ _ (h.imp id fun h base hd => h ?_)
    subst hd
    exact ⟨_, _, _, hp⟩
  · exact effect_chunkOut _ _ _ _ _
  · exact effect_goOn _ _
  · exact allNext_refused
  · exact allNext_refused

theorem effect_runProgram (prog : Program) (s : State) (x : Ctx) (h : st = true ∨ ¬ x.storing)
    (hp : ∀ r, AllNext (Effect init st s) (prog s x r)) :
    AllNext (Effect init st s) (runProgram prog s x) := by
  unfold runProgram
  split
  · exact effect_runMicro _ _ _ _
  · split
    · exact hp _
    · exact hp _
    · exact effect_primitiveStep _ _ h

theorem effect_operation (start : Ctx) (prog : Program) (s : State)
    (h : st = true ∨ ∀ x, s.ctx = some x → ¬ x.storing) (h0 : ¬ start.storing)
    (hp : ∀ x r, AllNext (Effect init st s) (prog s x r)) :
    AllNext (Effect init st s) (operation start prog s) := by
  unfold operation
  split
  · exact effect_runProgram _ _ _ (.inr h0) (hp _)
  · next x hx => exact effect_runProgram _ _ _ (h.imp id fun h => h x hx) (hp _)

theorem opening_not_storing (dev : Nat) (pc : SeqPc) (cl : Option (Nat × Nat)) :
    ¬ (opening dev pc cl).storing := by
  rintro ⟨base, off, left, h⟩
  cases h

/-! ### Application commands and pseudo-operations -/

theorem effect_acmd (c : Option Command) (head frame : SeqPc) (failed : Option Byte → Outcome)
    (done : PrimResult → Outcome) (s : State) (x : Ctx) (r : Option PrimResult)
    (hf : ∀ tag, AllNext (Effect init st s) (failed tag)) (hd : ∀ p, AllNext (Effect init st s) (done p)) :
    AllNext (Effect init st s) (acmd c head frame failed done s x r) := by
  unfold acmd
  split
  · split
    · exact effect_startCommand _ _ _
    · exact allNext_refused
  · split
    · split
      · exact allNext_ite (hf _) (effect_goOn _ _)
      · exact hf _
      · exact allNext_refused
    · exact hd _

theorem effect_pseudoEnd (s : State) (x : Ctx) (p : PrimResult) :
    AllNext (Effect init st s) (pseudoEnd s x p) := by
  cases p <;> first | exact effect_complete _ _ | exact allNext_refused

theorem effect_pseudoProgram (s : State) (x : Ctx) (r : Option PrimResult) :
    AllNext (Effect init st s) (pseudoProgram s x r) := by
  cases r
  · exact allNext_refused
  · exact effect_pseudoEnd _ _ _

/-- The client that takes the step is in no pseudo-operation that streams into caller memory. -/
def State.pseudoStoresNothing (s : State) : Prop :=
  ∀ x, s.ctx = some x → x.pc = .pseudo ∨ x.pc = .pseudoAppCmd → ¬ x.storing

theorem pseudoStoresNothing_of (s : State) (h : ∀ x, s.ctx = some x → ¬ x.storing) : s.pseudoStoresNothing :=
  fun x hx _ => h x hx

/-- Where `HoldsBus` holds, no pseudo-operation stores. -/
theorem HoldsBus.pseudoStoresNothing {s : State} (h : HoldsBus s) : s.pseudoStoresNothing := by
  intro x hx hpc hst
  obtain ⟨base, off, left, hp⟩ := hst
  unfold State.ctx at hx
  split at hx
  · next cl hcl => exact (h.legal _ cl x hcl hx).noStore hpc base off left hp
  · cases hx

theorem effect_commandRow (c : Command) (s : State)
    (h : st = true ∨ s.pseudoStoresNothing) :
    AllNext (Effect init st s) (commandRow c s) := by
  unfold commandRow
  split
  · exact effect_requireIdleBus _ _ (effect_startCommand _ _ _)
  · next x hx =>
    exact allNext_ite (effect_startCommand _ _ _) (allNext_ite_of (fun hp =>
      effect_runProgram _ _ _ (h.imp id fun h => h x hx (.inl hp)) fun r => effect_pseudoProgram s x r)
      allNext_refused)

theorem effect_acmdRow (c : Command) (s : State)
    (h : st = true ∨ s.pseudoStoresNothing) :
    AllNext (Effect init st s) (acmdRow c s) := by
  unfold acmdRow
  split
  · exact effect_requireIdleBus _ _ (effect_startCommand _ _ _)
  · next x hx =>
    refine allNext_ite (effect_startCommand _ _ _) (allNext_ite_of (fun hp => ?_) allNext_refused)
    exact effect_runProgram _ _ _ (h.imp id fun h => h x hx hp) fun r =>
      effect_acmd _ _ _ _ _ _ _ _ (fun _ => effect_complete _ _) fun p => effect_pseudoEnd _ _ _

theorem effect_pseudo (start : Outcome) (prog : Program) (s : State)
    (h : st = true ∨ s.pseudoStoresNothing) (h0 : AllNext (Effect init st s) start)
    (hp : ∀ x r, AllNext (Effect init st s) (prog s x r)) :
    AllNext (Effect init st s) (pseudo start prog s) := by
  unfold pseudo
  split
  · exact effect_requireIdleBus _ _ h0
  · next x hx =>
    exact allNext_ite_of (fun hpc => effect_runProgram _ _ _ (h.imp id fun h => h x hx (.inl hpc)) (hp x))
      allNext_refused

theorem effect_pseudoGroup (ops : List EngineOp) (result : Ctx → Result) (s : State)
    (h : st = true ∨ s.pseudoStoresNothing) :
    AllNext (Effect init st s) (pseudoGroup ops result s) := by
  have hp : ∀ (x : Ctx) (r : Option PrimResult), AllNext (Effect init st s)
      (match r with
        | some .ok => .next (s.complete (result x))
        | _ => .refused .outOfPhase) := by
    intro x r
    split
    · exact effect_complete _ _
    · exact allNext_refused
  refine effect_pseudo _ _ _ h (effect_runProgram _ _ _ (.inr ?_) (hp _)) hp
  rintro ⟨_, _, _, h⟩
  cases h

/-- What a step of a pseudo-operation does to the state: nothing outside `Effect`, and it writes no device's flag
or session. -/
theorem execPseudo_effect (op : PseudoOp) (s t : State) (st : Bool)
    (h : st = true ∨ s.pseudoStoresNothing) (ht : execPseudo op s = .next t) :
    Effect false st s t := by
  revert t
  cases op
  case xferIn n => exact allNext_ite (effect_pseudoGroup _ _ _ h) allNext_refused
  case xferOut bytes => exact allNext_ite (effect_pseudoGroup _ _ _ h) allNext_refused
  case waitNotBusy limit =>
    exact effect_pseudo _ _ _ h (effect_startPollBusy _ _ _ _) fun x r => effect_pseudoProgram s x r
  case sendCmd idx arg kind => exact allNext_ite (effect_commandRow _ _ h) allNext_refused
  case acmd idx arg kind => exact allNext_ite (effect_acmdRow _ _ h) allNext_refused
  case waitToken limit =>
    exact effect_pseudo _ _ _ h (effect_startPollToken _ _ _) fun x r => effect_pseudoProgram s x r

end

end Sys2Proof.Machine
end

