-- ==== Sys2Proof/Laws/PerInstr.lean ====
section
/-! SUPPORT. Statements made for each instruction, one lemma per constructor.

`Fits`: an instruction's encoding is not empty and no longer than the longest one, the 17 bytes of `sd_read`, so
that the bytes of a word of the opcode table hold every encoding (R121, R123, R127 to R129, R134, R136). -/

namespace Sys2Proof.Laws.Fits

open Sys2Proof

/-- The length of the instruction's encoding. -/
def Statement (i : Instr) : Prop := 1 ≤ (encode i).length ∧ (encode i).length ≤ longestEncoding

theorem of_length {i : Instr} {n : Nat} (h : (encode i).length = n) (h1 : 1 ≤ n) (h2 : n ≤ longestEncoding) :
    Statement i := by
  unfold Statement
  omega

theorem busInit : Statement (.busInit) :=
  of_length (n := 1) rfl (by decide) (by decide)

theorem acquire (dev : Nat) : Statement (.acquire dev) :=
  of_length (n := 5) rfl (by decide) (by decide)

theorem release : Statement (.release) :=
  of_length (n := 1) rfl (by decide) (by decide)

theorem setClock (word : ClockWord) : Statement (.setClock word) :=
  of_length (n := 5) rfl (by decide) (by decide)

theorem csAssert : Statement (.csAssert) :=
  of_length (n := 1) rfl (by decide) (by decide)

theorem csDeassert : Statement (.csDeassert) :=
  of_length (n := 1) rfl (by decide) (by decide)

theorem reset : Statement (.reset) :=
  of_length (n := 1) rfl (by decide) (by decide)

theorem setCommand (len : Nat) (value : BitVec 16) : Statement (.setCommand len value) :=
  of_length (n := 4) rfl (by decide) (by decide)

theorem setAddress (len : Nat) (value : BitVec 32) : Statement (.setAddress len value) :=
  of_length (n := 6) rfl (by decide) (by decide)

theorem setOutput (len : Nat) (bytes : Nat) : Statement (.setOutput len bytes) :=
  of_length (n := 7) rfl (by decide) (by decide)

theorem setOutputPattern (len : Nat) (word : BitVec 32) : Statement (.setOutputPattern len word) :=
  of_length (n := 7) rfl (by decide) (by decide)

theorem configureExec (bigEndianOut : Bool) (dummyCycles : Nat) (recvBits : Nat) (bigEndianIn : Bool) : Statement (.configureExec bigEndianOut dummyCycles recvBits bigEndianIn) :=
  of_length (n := 7) rfl (by decide) (by decide)

theorem execute : Statement (.execute) :=
  of_length (n := 1) rfl (by decide) (by decide)

theorem wait : Statement (.wait) :=
  of_length (n := 1) rfl (by decide) (by decide)

theorem readResult (buf : Nat) : Statement (.readResult buf) :=
  of_length (n := 5) rfl (by decide) (by decide)

theorem sdInitialize (dev : Nat) : Statement (.sdInitialize dev) :=
  of_length (n := 5) rfl (by decide) (by decide)

theorem sdRead (dev first count buf : Nat) : Statement (.sdRead dev first count buf) :=
  of_length (n := 17) rfl (by decide) (by decide)

theorem sdWrite (dev first count buf : Nat) : Statement (.sdWrite dev first count buf) :=
  of_length (n := 17) rfl (by decide) (by decide)

theorem sdErase (dev first last : Nat) : Statement (.sdErase dev first last) :=
  of_length (n := 13) rfl (by decide) (by decide)

theorem sdReadCid (dev buf : Nat) : Statement (.sdReadCid dev buf) :=
  of_length (n := 9) rfl (by decide) (by decide)

theorem sdReadCsd (dev buf : Nat) : Statement (.sdReadCsd dev buf) :=
  of_length (n := 9) rfl (by decide) (by decide)

theorem status (unit : Nat) : Statement (.status unit) :=
  of_length (n := 5) rfl (by decide) (by decide)

theorem upInitialize (unit : Nat) : Statement (.upInitialize unit) :=
  of_length (n := 5) rfl (by decide) (by decide)

theorem upRead (unit firstBlock count buf : Nat) : Statement (.upRead unit firstBlock count buf) :=
  of_length (n := 17) rfl (by decide) (by decide)

theorem upWrite (unit firstBlock count buf : Nat) : Statement (.upWrite unit firstBlock count buf) :=
  of_length (n := 17) rfl (by decide) (by decide)

theorem blockCount (unit : Nat) : Statement (.blockCount unit) :=
  of_length (n := 5) rfl (by decide) (by decide)

theorem sectorSize (unit : Nat) : Statement (.sectorSize unit) :=
  of_length (n := 5) rfl (by decide) (by decide)

theorem eraseGranularity (unit : Nat) : Statement (.eraseGranularity unit) :=
  of_length (n := 5) rfl (by decide) (by decide)

theorem cmd0GoIdleState : Statement (.cmd0GoIdleState) :=
  of_length (n := 6) rfl (by decide) (by decide)

theorem cmd1SendOpCond : Statement (.cmd1SendOpCond) :=
  of_length (n := 6) rfl (by decide) (by decide)

theorem cmd8SendIfCond : Statement (.cmd8SendIfCond) :=
  of_length (n := 6) rfl (by decide) (by decide)

theorem cmd9SendCsd : Statement (.cmd9SendCsd) :=
  of_length (n := 6) rfl (by decide) (by decide)

theorem cmd10SendCid : Statement (.cmd10SendCid) :=
  of_length (n := 6) rfl (by decide) (by decide)

theorem cmd12StopTransmission : Statement (.cmd12StopTransmission) :=
  of_length (n := 6) rfl (by decide) (by decide)

theorem cmd16SetBlocklen : Statement (.cmd16SetBlocklen) :=
  of_length (n := 6) rfl (by decide) (by decide)

theorem cmd17ReadSingleBlock (a : BitVec 32) : Statement (.cmd17ReadSingleBlock a) :=
  of_length (n := 6) rfl (by decide) (by decide)

theorem cmd18ReadMultipleBlock (a : BitVec 32) : Statement (.cmd18ReadMultipleBlock a) :=
  of_length (n := 6) rfl (by decide) (by decide)

theorem cmd24WriteBlock (a : BitVec 32) : Statement (.cmd24WriteBlock a) :=
  of_length (n := 6) rfl (by decide) (by decide)

theorem cmd25WriteMultipleBlock (a : BitVec 32) : Statement (.cmd25WriteMultipleBlock a) :=
  of_length (n := 6) rfl (by decide) (by decide)

theorem cmd32EraseWrBlkStart (a : BitVec 32) : Statement (.cmd32EraseWrBlkStart a) :=
  of_length (n := 6) rfl (by decide) (by decide)

theorem cmd33EraseWrBlkEnd (a : BitVec 32) : Statement (.cmd33EraseWrBlkEnd a) :=
  of_length (n := 6) rfl (by decide) (by decide)

theorem cmd38Erase : Statement (.cmd38Erase) :=
  of_length (n := 6) rfl (by decide) (by decide)

theorem cmd55AppCmd : Statement (.cmd55AppCmd) :=
  of_length (n := 6) rfl (by decide) (by decide)

theorem cmd58ReadOcr : Statement (.cmd58ReadOcr) :=
  of_length (n := 6) rfl (by decide) (by decide)

theorem acmd23SetWrBlkEraseCount (a : BitVec 32) : Statement (.acmd23SetWrBlkEraseCount a) :=
  of_length (n := 6) rfl (by decide) (by decide)

theorem acmd41SdV2Hcs : Statement (.acmd41SdV2Hcs) :=
  of_length (n := 6) rfl (by decide) (by decide)

theorem acmd41SdV1 : Statement (.acmd41SdV1) :=
  of_length (n := 6) rfl (by decide) (by decide)

theorem r1Status (s : BitVec 7) : Statement (.r1Status s) :=
  of_length (n := 1) rfl (by decide) (by decide)

theorem r3StatusOcr (s : BitVec 7) (o : BitVec 32) : Statement (.r3StatusOcr s o) :=
  of_length (n := 5) rfl (by decide) (by decide)

theorem r7StatusEcho (s : BitVec 7) (x : BitVec 20) (e : BitVec 12) : Statement (.r7StatusEcho s x e) :=
  of_length (n := 5) rfl (by decide) (by decide)

theorem fillerNotBusy : Statement (.fillerNotBusy) :=
  of_length (n := 1) rfl (by decide) (by decide)

theorem dataStartToken : Statement (.dataStartToken) :=
  of_length (n := 1) rfl (by decide) (by decide)

theorem multiBlockWriteStartToken : Statement (.multiBlockWriteStartToken) :=
  of_length (n := 1) rfl (by decide) (by decide)

theorem multiBlockStopToken : Statement (.multiBlockStopToken) :=
  of_length (n := 1) rfl (by decide) (by decide)

theorem dataResponseAccepted (x : BitVec 4) : Statement (.dataResponseAccepted x) :=
  of_length (n := 1) rfl (by decide) (by decide)

theorem dataResponseRejected (x n : BitVec 4) : Statement (.dataResponseRejected x n) :=
  of_length (n := 1) rfl (by decide) (by decide)

end Sys2Proof.Laws.Fits
end

