-- ==== Sys2Proof/Laws/Programs.lean ====
section
/-! SUPPORT. The programs of the sequencer, and then every instruction, have only the effects of
`Effect`: `exec_effect`. -/

namespace Sys2Proof.Machine

open Sys2Proof

section

variable {init st : Bool}

/-! ### The command rows -/

theorem effect_execCmd0GoIdleState (s : State)
    (h : st = true ∨ ∀ x, s.ctx = some x → ¬ x.storing) : AllNext (Effect init st s) (execCmd0GoIdleState s) :=
  effect_commandRow _ s (h.imp id (pseudoStoresNothing_of s))
theorem effect_execCmd1SendOpCond (s : State)
    (h : st = true ∨ ∀ x, s.ctx = some x → ¬ x.storing) : AllNext (Effect init st s) (execCmd1SendOpCond s) :=
  effect_commandRow _ s (h.imp id (pseudoStoresNothing_of s))
theorem effect_execCmd8SendIfCond (s : State)
    (h : st = true ∨ ∀ x, s.ctx = some x → ¬ x.storing) : AllNext (Effect init st s) (execCmd8SendIfCond s) :=
  effect_commandRow _ s (h.imp id (pseudoStoresNothing_of s))
theorem effect_execCmd9SendCsd (s : State)
    (h : st = true ∨ ∀ x, s.ctx = some x → ¬ x.storing) : AllNext (Effect init st s) (execCmd9SendCsd s) :=
  effect_commandRow _ s (h.imp id (pseudoStoresNothing_of s))
theorem effect_execCmd10SendCid (s : State)
    (h : st = true ∨ ∀ x, s.ctx = some x → ¬ x.storing) : AllNext (Effect init st s) (execCmd10SendCid s) :=
  effect_commandRow _ s (h.imp id (pseudoStoresNothing_of s))
theorem effect_execCmd12StopTransmission (s : State)
    (h : st = true ∨ ∀ x, s.ctx = some x → ¬ x.storing) : AllNext (Effect init st s) (execCmd12StopTransmission s) :=
  effect_commandRow _ s (h.imp id (pseudoStoresNothing_of s))
theorem effect_execCmd16SetBlocklen (s : State)
    (h : st = true ∨ ∀ x, s.ctx = some x → ¬ x.storing) : AllNext (Effect init st s) (execCmd16SetBlocklen s) :=
  effect_commandRow _ s (h.imp id (pseudoStoresNothing_of s))
theorem effect_execCmd17ReadSingleBlock (a : BitVec 32) (s : State)
    (h : st = true ∨ ∀ x, s.ctx = some x → ¬ x.storing) : AllNext (Effect init st s) (execCmd17ReadSingleBlock a s) :=
  effect_commandRow _ s (h.imp id (pseudoStoresNothing_of s))
theorem effect_execCmd18ReadMultipleBlock (a : BitVec 32) (s : State)
    (h : st = true ∨ ∀ x, s.ctx = some x → ¬ x.storing) : AllNext (Effect init st s) (execCmd18ReadMultipleBlock a s) :=
  effect_commandRow _ s (h.imp id (pseudoStoresNothing_of s))
theorem effect_execCmd24WriteBlock (a : BitVec 32) (s : State)
    (h : st = true ∨ ∀ x, s.ctx = some x → ¬ x.storing) : AllNext (Effect init st s) (execCmd24WriteBlock a s) :=
  effect_commandRow _ s (h.imp id (pseudoStoresNothing_of s))
theorem effect_execCmd25WriteMultipleBlock (a : BitVec 32) (s : State)
    (h : st = true ∨ ∀ x, s.ctx = some x → ¬ x.storing) : AllNext (Effect init st s) (execCmd25WriteMultipleBlock a s) :=
  effect_commandRow _ s (h.imp id (pseudoStoresNothing_of s))
theorem effect_execCmd32EraseWrBlkStart (a : BitVec 32) (s : State)
    (h : st = true ∨ ∀ x, s.ctx = some x → ¬ x.storing) : AllNext (Effect init st s) (execCmd32EraseWrBlkStart a s) :=
  effect_commandRow _ s (h.imp id (pseudoStoresNothing_of s))
theorem effect_execCmd33EraseWrBlkEnd (a : BitVec 32) (s : State)
    (h : st = true ∨ ∀ x, s.ctx = some x → ¬ x.storing) : AllNext (Effect init st s) (execCmd33EraseWrBlkEnd a s) :=
  effect_commandRow _ s (h.imp id (pseudoStoresNothing_of s))
theorem effect_execCmd38Erase (s : State)
    (h : st = true ∨ ∀ x, s.ctx = some x → ¬ x.storing) : AllNext (Effect init st s) (execCmd38Erase s) :=
  effect_commandRow _ s (h.imp id (pseudoStoresNothing_of s))
theorem effect_execCmd55AppCmd (s : State)
    (h : st = true ∨ ∀ x, s.ctx = some x → ¬ x.storing) : AllNext (Effect init st s) (execCmd55AppCmd s) :=
  effect_commandRow _ s (h.imp id (pseudoStoresNothing_of s))
theorem effect_execCmd58ReadOcr (s : State)
    (h : st = true ∨ ∀ x, s.ctx = some x → ¬ x.storing) : AllNext (Effect init st s) (execCmd58ReadOcr s) :=
  effect_commandRow _ s (h.imp id (pseudoStoresNothing_of s))
theorem effect_execAcmd23SetWrBlkEraseCount (a : BitVec 32) (s : State)
    (h : st = true ∨ ∀ x, s.ctx = some x → ¬ x.storing) : AllNext (Effect init st s) (execAcmd23SetWrBlkEraseCount a s) :=
  effect_acmdRow _ s (h.imp id (pseudoStoresNothing_of s))
theorem effect_execAcmd41SdV2Hcs (s : State)
    (h : st = true ∨ ∀ x, s.ctx = some x → ¬ x.storing) : AllNext (Effect init st s) (execAcmd41SdV2Hcs s) :=
  effect_acmdRow _ s (h.imp id (pseudoStoresNothing_of s))
theorem effect_execAcmd41SdV1 (s : State)
    (h : st = true ∨ ∀ x, s.ctx = some x → ¬ x.storing) : AllNext (Effect init st s) (execAcmd41SdV1 s) :=
  effect_acmdRow _ s (h.imp id (pseudoStoresNothing_of s))

/-! ### Initialization -/

theorem effect_initUnsupported (s : State) (x : Ctx) (sw : Bool) :
    AllNext (Effect init st s) (initUnsupported s x sw) := allNext_ite (effect_goOn _ _) (effect_goOn _ _)

theorem effect_initAttemptEnd (s : State) (x : Ctx) (p : PrimResult) :
    AllNext (Effect init st s) (initAttemptEnd s x p) := by
  unfold initAttemptEnd
  split
  · exact allNext_ite (effect_goOn _ _) (allNext_ite (effect_goOn _ _) (effect_initUnsupported _ _ _))
  · exact effect_goOn _ _
  · exact allNext_refused

theorem effect_initAcmd (s : State) (x : Ctx) (r : Option PrimResult) :
    AllNext (Effect init st s) (initAcmd s x r) :=
  effect_acmd _ _ _ _ _ _ _ _ (fun _ => effect_initUnsupported _ _ _) fun p => effect_initAttemptEnd s x p


set_option maxRecDepth 8000 in
theorem effect_initOperation (d : Nat) (deliver : Res → Result) (s : State)
    (h : st = true ∨ ∀ x, s.ctx = some x → ¬ x.storing) :
    AllNext (Effect true st s) (initOperation d deliver s) := by
  refine effect_operation _ _ _ h (opening_not_storing _ _ _) fun x r => ?_
  unfold initProgram
  split
  · unfold initAcquired; split
    · exact allNext_refused
    · exact allNext_ite (effect_goOn _ _) allNext_refused
  · exact allNext_goOn.2 (.clear rfl d (quiet_withCtx _ _))
  · exact effect_goOn _ _
  · exact effect_goOn _ _
  · exact effect_execCmd0GoIdleState _ h
  · exact allNext_ite (effect_goOn _ _) (effect_goOn _ _)
  · exact effect_goOn _ _
  · exact effect_execCmd8SendIfCond _ h
  · unfold initIfCondReply; split
    · exact effect_goOn _ _
    · split
      · exact allNext_refused
      · exact allNext_ite (effect_goOn _ _) (effect_goOn _ _)
  · exact effect_goOn _ _
  · exact effect_now_goOn _ _
  · exact effect_initAcmd _ _ _
  · exact effect_initAcmd _ _ _
  · exact effect_execCmd1SendOpCond _ h
  · exact effect_initAttemptEnd _ _ _
  · unfold initDeadline; split
    · exact allNext_refused
    · exact allNext_ite (effect_now_goOn _ _) (effect_now_goOn _ _)
  · exact allNext_ite (effect_execCmd58ReadOcr _ h) (effect_goOn _ _)
  · unfold initOcrReply; split
    · split
      · exact allNext_refused
      · exact allNext_ite (allNext_goOn.2 (.flag rfl d (quiet_withCtx _ _))) (effect_goOn _ _)
    · exact effect_goOn _ _
  · exact effect_goOn _ _
  · unfold initBlocklen; split
    · exact allNext_refused
    · exact allNext_ite (effect_goOn _ _) (effect_execCmd16SetBlocklen _ h)
  · exact allNext_ite (effect_goOn _ _) (effect_goOn _ _)
  · exact effect_goOn _ _
  · unfold initReady; split
    · exact allNext_goOn.2 (.session rfl d _ (quiet_withCtx _ _))
    · exact allNext_refused
    · exact allNext_refused
  · unfold initFail; split
    · exact allNext_refused
    · exact allNext_goOn.2 (.session rfl d _ (quiet_withCtx _ _))
  · exact effect_complete _ _
  · exact allNext_refused

/-! ### Block read, write and erase -/

theorem effect_endWith (s : State) (x : Ctx) (r : Res) : AllNext (Effect init st s) (endWith s x r) :=
  effect_goOn _ _

theorem effect_afterCommand (s : State) (x : Ctx) (r1 : Byte) (next : SeqPc) :
    AllNext (Effect init st s) (afterCommand s x r1 next) :=
  allNext_ite (effect_goOn _ _) (effect_endWith _ _ _)

theorem effect_writeAcmd (count : Nat) (s : State) (x : Ctx) (r : Option PrimResult) :
    AllNext (Effect init st s) (writeAcmd count s x r) := by
  refine effect_acmd _ _ _ _ _ _ _ _ (fun _ => effect_endWith _ _ _) fun p => ?_
  unfold writeAnnounced
  split
  · exact effect_afterCommand _ _ _ _
  · exact effect_endWith _ _ _
  · exact allNext_refused

theorem effect_beginAcquired (d : Nat) (s : State) (x : Ctx) :
    AllNext (Effect init st s) (beginAcquired d s x) := by
  unfold beginAcquired; split
  · exact allNext_refused
  · exact allNext_ite (effect_goOn _ _) allNext_refused

theorem effect_withAddr (d n : Nat) (s : State) (k : BitVec 32 → Outcome)
    (h : ∀ a, AllNext (Effect init st s) (k a)) : AllNext (Effect init st s) (withAddr d n s k) := by
  unfold withAddr; split
  · exact allNext_refused
  · split
    · exact allNext_refused
    · exact h _

theorem effect_withBlock (s : State) (x : Ctx) (k : Nat → Outcome)
    (h : ∀ n, AllNext (Effect init st s) (k n)) : AllNext (Effect init st s) (withBlock x k) := by
  unfold withBlock; split
  · exact allNext_refused
  · exact h _

set_option maxRecDepth 8000 in
theorem effect_readOperation (d first count buf : Nat) (deliver : Res → Result) (s : State) :
    AllNext (Effect init true s) (readOperation d first count buf deliver s) := by
  have h : true = true ∨ ∀ x, s.ctx = some x → ¬ x.storing := .inl rfl
  unfold readOperation
  refine allNext_ite allNext_refused
    (effect_operation _ _ _ h (opening_not_storing _ _ _) fun x r => ?_)
  unfold readProgram
  split
  · exact effect_beginAcquired _ _ _
  · exact effect_goOn _ _
  · exact effect_withAddr _ _ _ _ fun a =>
      allNext_ite (effect_execCmd17ReadSingleBlock a s h) (effect_execCmd18ReadMultipleBlock a s h)
  · exact effect_afterCommand _ _ _ _
  · exact effect_endWith _ _ _
  · exact effect_startPollToken _ _ _
  · exact effect_goOn _ _
  · exact effect_endWith _ _ _
  · exact effect_endWith _ _ _
  · exact effect_withBlock _ _ _ fun k => effect_startStreamIn _ _ _ _
  · exact effect_goOn _ _
  · exact effect_startStreamIn _ _ _ _
  · exact effect_withBlock _ _ _ fun k =>
      allNext_ite (effect_goOn _ _) (allNext_ite (effect_goOn _ _) (effect_endWith _ _ _))
  · exact effect_execCmd12StopTransmission _ h
  · exact effect_endWith _ _ _
  · exact effect_endWith _ _ _
  · exact effect_complete _ _
  · exact allNext_refused

set_option maxRecDepth 8000 in
theorem effect_writeOperation (d first count buf : Nat) (deliver : Res → Result) (s : State)
    (h : st = true ∨ ∀ x, s.ctx = some x → ¬ x.storing) :
    AllNext (Effect init st s) (writeOperation d first count buf deliver s) := by
  unfold writeOperation
  refine allNext_ite allNext_refused
    (effect_operation _ _ _ h (opening_not_storing _ _ _) fun x r => ?_)
  unfold writeProgram
  split
  · exact effect_beginAcquired _ _ _
  · unfold writeStart; split
    · exact effect_goOn _ _
    · split
      · exact allNext_refused
      · exact effect_goOn _ _
  · exact effect_withAddr _ _ _ _ fun a => effect_execCmd24WriteBlock a s h
  · exact effect_afterCommand _ _ _ _
  · exact effect_endWith _ _ _
  · exact effect_execDataStartToken _
  · exact effect_goOn _ _
  · exact effect_sendChunk _ _ _ _ _
  · exact effect_goOn _ _
  · exact effect_startXferOut _ _ _
  · exact effect_goOn _ _
  · exact effect_startDataResponse _ _
  · exact effect_endWith _ _ _
  · exact effect_endWith _ _ _
  · exact effect_writeAcmd _ _ _ _
  · exact effect_writeAcmd _ _ _ _
  · exact effect_withAddr _ _ _ _ fun a => effect_execCmd25WriteMultipleBlock a s h
  · exact effect_afterCommand _ _ _ _
  · exact effect_endWith _ _ _
  · exact effect_execMultiBlockWriteStartToken _
  · exact effect_goOn _ _
  · exact effect_withBlock _ _ _ fun k => effect_sendChunk _ _ _ _ _
  · exact effect_goOn _ _
  · exact effect_startXferOut _ _ _
  · exact effect_goOn _ _
  · exact effect_startDataResponse _ _
  · exact effect_goOn _ _
  · exact effect_goOn _ _
  · exact effect_startPollBusy _ _ _ _
  · exact effect_withBlock _ _ _ fun k => effect_goOn _ _
  · exact effect_goOn _ _
  · exact effect_execMultiBlockStopToken _
  · exact effect_goOn _ _
  · exact effect_startPollBusy _ _ _ _
  · exact effect_endWith _ _ _
  · exact effect_endWith _ _ _
  · exact effect_execCmd12StopTransmission _ h
  · exact effect_endWith _ _ _
  · exact effect_endWith _ _ _
  · exact effect_complete _ _
  · exact allNext_refused

set_option maxRecDepth 8000 in
theorem effect_execSdErase (d first last : Nat) (s : State)
    (h : st = true ∨ ∀ x, s.ctx = some x → ¬ x.storing) :
    AllNext (Effect init st s) (execSdErase d first last s) := by
  refine effect_operation _ _ _ h (opening_not_storing _ _ _) fun x r => ?_
  unfold eraseProgram
  split
  · exact effect_beginAcquired _ _ _
  · exact effect_goOn _ _
  · exact effect_withAddr _ _ _ _ fun a => effect_execCmd32EraseWrBlkStart a s h
  · exact effect_afterCommand _ _ _ _
  · exact effect_endWith _ _ _
  · exact effect_withAddr _ _ _ _ fun a => effect_execCmd33EraseWrBlkEnd a s h
  · exact effect_afterCommand _ _ _ _
  · exact effect_endWith _ _ _
  · exact effect_execCmd38Erase _ h
  · exact effect_endWith _ _ _
  · exact effect_endWith _ _ _
  · exact effect_complete _ _
  · exact allNext_refused

/-! ### Register reads -/

set_option maxRecDepth 8000 in
theorem effect_registerProgram (d : Nat) (rev : Bool) (store : State → Ctx → List Byte → Outcome)
    (deliver : State → Ctx → Res → Outcome) (s : State) (x : Ctx) (r : Option PrimResult)
    (h : st = true ∨ ∀ x, s.ctx = some x → ¬ x.storing)
    (hs : ∀ bs, AllNext (Effect init st s) (store s x bs))
    (hd : ∀ res, AllNext (Effect init st s) (deliver s x res)) :
    AllNext (Effect init st s) (registerProgram d rev store deliver s x r) := by
  unfold registerProgram
  split
  · exact effect_beginAcquired _ _ _
  · exact effect_goOn _ _
  · exact allNext_ite (effect_execCmd9SendCsd _ h) (effect_execCmd10SendCid _ h)
  · exact effect_afterCommand _ _ _ _
  · exact effect_endWith _ _ _
  · exact effect_startPollToken _ _ _
  · exact effect_goOn _ _
  · exact effect_endWith _ _ _
  · exact effect_endWith _ _ _
  · exact effect_startStreamIn _ _ _ _
  · exact effect_goOn _ _
  · exact effect_startStreamIn _ _ _ _
  · exact effect_goOn _ _
  · exact hs _
  · exact hd _
  · exact allNext_refused

theorem effect_storeRegister (buf : Nat) (s : State) (x : Ctx) (bs : List Byte) :
    AllNext (Effect init true s) (storeRegister buf s x bs) := by
  unfold storeRegister; split
  · exact allNext_refused
  · next u hu => exact allNext_goOn.2 (.store rfl _ _ u hu (quiet_withCtx _ _))

theorem effect_execSdReadCid (d buf : Nat) (s : State) :
    AllNext (Effect init true s) (execSdReadCid d buf s) :=
  effect_operation _ _ _ (.inl rfl) (opening_not_storing _ _ _) fun x _ =>
    effect_registerProgram _ _ _ _ _ _ _ (.inl rfl) (effect_storeRegister buf s x) fun _ =>
      effect_complete _ _

theorem effect_execSdReadCsd (d buf : Nat) (s : State) :
    AllNext (Effect init true s) (execSdReadCsd d buf s) :=
  effect_operation _ _ _ (.inl rfl) (opening_not_storing _ _ _) fun x _ =>
    effect_registerProgram _ _ _ _ _ _ _ (.inl rfl) (effect_storeRegister buf s x) fun _ =>
      effect_complete _ _

/-! ### The block-device interface -/

theorem effect_answer (s : State) (r : Result) : AllNext (Effect init st s) (answer s r) :=
  allNext_ite (effect_complete _ _) allNext_refused


theorem effect_execBlockCount (u : Nat) (s : State)
    (h : st = true ∨ ∀ x, s.ctx = some x → ¬ x.storing) :
    AllNext (Effect init st s) (execBlockCount u s) := by
  unfold execBlockCount
  refine allNext_ite ?_ (effect_answer _ _)
  refine effect_operation _ _ _ h (opening_not_storing _ _ _) fun x r =>
    effect_registerProgram _ _ _ _ _ _ _ h (fun _ => effect_endWith _ _ _) fun res => ?_
  unfold deliverCapacity
  split
  · split
    · exact effect_complete _ _
    · exact allNext_next.2 (.quiet ((quiet_drawCapacity s).trans (quiet_complete _ _)))
  · exact effect_complete _ _

end

/-! ### Every instruction -/

theorem effect_busInit {init st : Bool} (s : State) : AllNext (Effect init st s) (execBusInit s) := by
  unfold execBusInit
  cases h : busInitOp s with
  | done u b => exact allNext_next.2 (.lock u b h (quiet_complete _ _))
  | blocked u => exact absurd h busInitOp_blocked
  | refuse r => exact allNext_refused

theorem effect_execSetOutput {init st : Bool} (len r : Nat) (s : State) :
    AllNext (Effect init st s) (execSetOutput len r s) := by
  unfold execSetOutput
  split
  · next bs _ => exact effect_request s (.setOutput len bs)
  · exact allNext_refused

theorem effect_execReadResult {init : Bool} (buf : Nat) (s : State) :
    AllNext (Effect init true s) (execReadResult buf s) := by
  unfold execReadResult
  split
  · next u b hb =>
    obtain ⟨-, -, rfl, -⟩ := readResultOp_done.1 hb
    split
    · next w hw => exact allNext_next.2 (.store rfl _ _ w hw (quiet_complete _ _))
    · exact allNext_refused
  · exact effect_request s .readTmp

theorem effect_execStatus {init st : Bool} (u : Nat) (s : State) :
    AllNext (Effect init st s) (execStatus u s) := by
  unfold execStatus
  split <;> exact effect_answer _ _

/-- What one instruction does to the state: nothing outside `Effect`. It writes a device's flag and session
only if it initializes, and it writes caller memory only if it stores, or if the context it runs in is one
that stores (`st`). -/
theorem exec_effect (i : Instr) (s t : State) (st : Bool) (hs : stores i = true → st = true)
    (h : st = true ∨ ∀ x, s.ctx = some x → ¬ x.storing) (ht : exec i s = .next t) :
    Effect (initializes i) st s t := by
  revert t
  cases i
  case busInit => exact effect_busInit s
  case acquire dev => exact effect_request s (.acquire dev)
  case release => exact effect_request s (.release)
  case setClock word => exact effect_request s (.setClock word)
  case csAssert => exact effect_request s (.csAssert)
  case csDeassert => exact effect_request s (.csDeassert)
  case reset => exact effect_request s (.reset)
  case setCommand len value => exact effect_request s (.setCommand len value)
  case setAddress len value => exact effect_request s (.setAddress len value)
  case setOutput len bytes => exact effect_execSetOutput _ _ s
  case setOutputPattern len word => exact effect_request s (.setOutputPattern len word)
  case configureExec bigEndianOut dummyCycles recvBits bigEndianIn => exact effect_request s (.configureExec bigEndianOut dummyCycles recvBits bigEndianIn)
  case execute => exact effect_request s (.execute)
  case wait => exact effect_request s (.wait)
  case readResult buf => cases hs rfl; exact effect_execReadResult _ s
  case sdInitialize dev => exact effect_initOperation _ _ s h
  case sdRead dev first count buf => cases hs rfl; exact effect_readOperation _ _ _ _ _ s
  case sdWrite dev first count buf => exact effect_writeOperation _ _ _ _ _ s h
  case sdErase dev first last => exact effect_execSdErase _ _ _ s h
  case sdReadCid dev buf => cases hs rfl; exact effect_execSdReadCid _ _ s
  case sdReadCsd dev buf => cases hs rfl; exact effect_execSdReadCsd _ _ s
  case status unit => exact effect_execStatus _ s
  case upInitialize unit => exact allNext_ite (effect_initOperation _ _ s h) (effect_answer _ _)
  case upRead unit firstBlock count buf => cases hs rfl; exact allNext_ite (effect_readOperation _ _ _ _ _ s) (effect_answer _ _)
  case upWrite unit firstBlock count buf => exact allNext_ite (effect_writeOperation _ _ _ _ _ s h) (effect_answer _ _)
  case blockCount unit => exact effect_execBlockCount _ s h
  case sectorSize unit => exact effect_answer _ _
  case eraseGranularity unit => exact effect_answer _ _
  case cmd0GoIdleState => exact effect_execCmd0GoIdleState s h
  case cmd1SendOpCond => exact effect_execCmd1SendOpCond s h
  case cmd8SendIfCond => exact effect_execCmd8SendIfCond s h
  case cmd9SendCsd => exact effect_execCmd9SendCsd s h
  case cmd10SendCid => exact effect_execCmd10SendCid s h
  case cmd12StopTransmission => exact effect_execCmd12StopTransmission s h
  case cmd16SetBlocklen => exact effect_execCmd16SetBlocklen s h
  case cmd17ReadSingleBlock a => exact effect_execCmd17ReadSingleBlock _ s h
  case cmd18ReadMultipleBlock a => exact effect_execCmd18ReadMultipleBlock _ s h
  case cmd24WriteBlock a => exact effect_execCmd24WriteBlock _ s h
  case cmd25WriteMultipleBlock a => exact effect_execCmd25WriteMultipleBlock _ s h
  case cmd32EraseWrBlkStart a => exact effect_execCmd32EraseWrBlkStart _ s h
  case cmd33EraseWrBlkEnd a => exact effect_execCmd33EraseWrBlkEnd _ s h
  case cmd38Erase => exact effect_execCmd38Erase s h
  case cmd55AppCmd => exact effect_execCmd55AppCmd s h
  case cmd58ReadOcr => exact effect_execCmd58ReadOcr s h
  case acmd23SetWrBlkEraseCount a => exact effect_execAcmd23SetWrBlkEraseCount _ s h
  case acmd41SdV2Hcs => exact effect_execAcmd41SdV2Hcs s h
  case acmd41SdV1 => exact effect_execAcmd41SdV1 s h
  case r1Status v => exact effect_execR1Status _ s
  case r3StatusOcr v o => exact effect_execR3StatusOcr _ _ s
  case r7StatusEcho v x e => exact effect_execR7StatusEcho _ _ _ s
  case fillerNotBusy => exact effect_execFillerNotBusy s
  case dataStartToken => exact effect_execDataStartToken s
  case multiBlockWriteStartToken => exact effect_execMultiBlockWriteStartToken s
  case multiBlockStopToken => exact effect_execMultiBlockStopToken s
  case dataResponseAccepted x => exact effect_execDataResponseAccepted x s
  case dataResponseRejected x n => exact effect_execDataResponseRejected x n s

end Sys2Proof.Machine
end

