-- ==== Sys2Proof/Tests/Slice0.lean ====
section
/-! SUPPORT. Tests: ill-formed terms, words written out from the spec's encodings, one-step tests whose expected
results are spec/95_test_vectors.md (its vector numbers are in the docstrings), and a state that meets the
hypotheses of each statement. -/

namespace Sys2Proof.Tests

open Sys2Proof Sys2Proof.Machine

/-! ### Ill-formed terms: one for each check of `Instr.wellFormed` -/

theorem test_ill_formed_terms_are_refused :
    ([.acquire (2 ^ 32), .setCommand 32 0, .setAddress 64 0, .setOutput 1024 0, .setOutput 8 (2 ^ 32),
      .setOutputPattern 1024 0, .configureExec false 512 0 false, .configureExec false 0 1024 false,
      .readResult (2 ^ 32), .sdInitialize (2 ^ 32), .sdRead (2 ^ 32) 0 1 0, .sdRead 0 (2 ^ 32) 1 0,
      .sdRead 0 0 (2 ^ 32) 0, .sdRead 0 0 1 (2 ^ 32), .sdWrite (2 ^ 32) 0 1 0, .sdWrite 0 (2 ^ 32) 1 0,
      .sdWrite 0 0 (2 ^ 32) 0, .sdWrite 0 0 1 (2 ^ 32)] : List Instr).all (fun i => !i.wellFormed) := by
  decide +kernel

theorem test_ill_formed_terms_are_refused_too :
    ([.sdErase (2 ^ 32) 0 0, .sdErase 0 (2 ^ 32) 0, .sdErase 0 0 (2 ^ 32), .sdReadCid (2 ^ 32) 0,
      .sdReadCid 0 (2 ^ 32), .sdReadCsd (2 ^ 32) 0, .sdReadCsd 0 (2 ^ 32), .status (2 ^ 32),
      .upInitialize (2 ^ 32), .upRead (2 ^ 32) 0 1 0, .upRead 0 (2 ^ 32) 1 0, .upRead 0 0 (2 ^ 32) 0,
      .upRead 0 0 1 (2 ^ 32), .upWrite (2 ^ 32) 0 1 0, .upWrite 0 (2 ^ 32) 1 0, .upWrite 0 0 (2 ^ 32) 0,
      .upWrite 0 0 1 (2 ^ 32), .blockCount (2 ^ 32), .sectorSize (2 ^ 32), .eraseGranularity (2 ^ 32),
      .dataResponseRejected 0 5] : List Instr).all (fun i => !i.wellFormed) := by
  decide +kernel

/-! ### Words of the spec's encodings -/

/-- These bytes, read at this port, are this instruction and nothing more. -/
def reads (port : Port) (bs : List Byte) (i : Instr) : Bool := decide (decodeAt port bs = .ok (i, []))

/-- The OPCs and operands of R121, the operand bytes in the layout of assumption 2. -/
theorem test_decode_engine_requests :
    reads .request [0x00] .busInit &&
    reads .request [0x01, 0x63, 0, 0, 0] (.acquire 99) &&
    reads .request [0x02] .release &&
    reads .request [0x03, 0x78, 0x56, 0x34, 0x12] (.setClock 0x12345678) &&
    reads .request [0x04] .csAssert &&
    reads .request [0x05] .csDeassert &&
    reads .request [0x06] .reset &&
    reads .request [0x07, 0x08, 0x48, 0x00] (.setCommand 8 0x48) &&
    reads .request [0x08, 0x20, 0xAA, 0x01, 0x00, 0x00] (.setAddress 32 0x1AA) &&
    reads .request [0x09, 0x00, 0x02, 0x00, 0x10, 0x00, 0x00] (.setOutput 512 0x1000) &&
    reads .request [0x0A, 0x28, 0x00, 0x78, 0x56, 0x34, 0x12] (.setOutputPattern 40 0x12345678) &&
    reads .request [0x0B, 0x01, 0x00, 0x01, 0x00, 0x02, 0x00] (.configureExec true 256 512 false) &&
    reads .request [0x0C] .execute &&
    reads .request [0x0D] .wait &&
    reads .request [0x0E, 0x00, 0x10, 0x00, 0x00] (.readResult 0x1000) := by
  decide +kernel

theorem test_decode_driver_requests :
    reads .request [0x10, 1, 0, 0, 0] (.sdInitialize 1) &&
    reads .request [0x11, 1, 0, 0, 0, 5, 0, 0, 0, 2, 0, 0, 0, 0, 0x10, 0, 0] (.sdRead 1 5 2 0x1000) &&
    reads .request [0x12, 0, 0, 0, 0, 3, 0, 0, 0, 1, 0, 0, 0, 0, 0x20, 0, 0] (.sdWrite 0 3 1 0x2000) &&
    reads .request [0x13, 0, 0, 0, 0, 10, 0, 0, 0, 15, 0, 0, 0] (.sdErase 0 10 15) &&
    reads .request [0x14, 0, 0, 0, 0, 0, 1, 0, 0] (.sdReadCid 0 256) &&
    reads .request [0x15, 1, 0, 0, 0, 0, 1, 0, 0] (.sdReadCsd 1 256) := by
  decide +kernel

theorem test_decode_block_device_requests :
    reads .request [0x20, 0, 0, 0, 0] (.status 0) &&
    reads .request [0x21, 1, 0, 0, 0] (.upInitialize 1) &&
    reads .request [0x22, 1, 0, 0, 0, 5, 0, 0, 0, 2, 0, 0, 0, 0, 0x10, 0, 0] (.upRead 1 5 2 0x1000) &&
    reads .request [0x23, 0, 0, 0, 0, 3, 0, 0, 0, 1, 0, 0, 0, 0, 0x20, 0, 0] (.upWrite 0 3 1 0x2000) &&
    reads .request [0x24, 0, 0, 0, 0] (.blockCount 0) &&
    reads .request [0x25, 7, 0, 0, 0] (.sectorSize 7) &&
    reads .request [0x26, 7, 0, 0, 0] (.eraseGranularity 7) := by
  decide +kernel

/-- The frames of section 2.3. -/
theorem test_decode_frames :
    reads .frame [0x40, 0x00, 0x00, 0x00, 0x00, 0x95] .cmd0GoIdleState &&
    reads .frame [0x41, 0x00, 0x00, 0x00, 0x00, 0xF9] .cmd1SendOpCond &&
    reads .frame [0x48, 0x00, 0x00, 0x01, 0xAA, 0x87] .cmd8SendIfCond &&
    reads .frame [0x49, 0x00, 0x00, 0x00, 0x00, 0xAF] .cmd9SendCsd &&
    reads .frame [0x4A, 0x00, 0x00, 0x00, 0x00, 0x1B] .cmd10SendCid &&
    reads .frame [0x4C, 0x00, 0x00, 0x00, 0x00, 0x61] .cmd12StopTransmission &&
    reads .frame [0x50, 0x00, 0x00, 0x02, 0x00, 0x15] .cmd16SetBlocklen &&
    reads .frame [0x51, 0xFF, 0xFF, 0xFE, 0x00, 0x9B] (.cmd17ReadSingleBlock 0xFFFFFE00) &&
    reads .frame [0x52, 0x00, 0x00, 0x0A, 0x00, 0x7D] (.cmd18ReadMultipleBlock 0xA00) &&
    reads .frame [0x58, 0x00, 0x00, 0x06, 0x00, 0x1B] (.cmd24WriteBlock 0x600) &&
    reads .frame [0x59, 0x00, 0x00, 0x06, 0x00, 0x77] (.cmd25WriteMultipleBlock 0x600) &&
    reads .frame [0x60, 0x00, 0x00, 0x14, 0x00, 0xF5] (.cmd32EraseWrBlkStart 0x1400) &&
    reads .frame [0x61, 0x00, 0x00, 0x1E, 0x00, 0x05] (.cmd33EraseWrBlkEnd 0x1E00) &&
    reads .frame [0x66, 0x00, 0x00, 0x00, 0x00, 0xA5] .cmd38Erase &&
    reads .frame [0x77, 0x00, 0x00, 0x00, 0x00, 0x65] .cmd55AppCmd &&
    reads .frame [0x7A, 0x00, 0x00, 0x00, 0x00, 0xFD] .cmd58ReadOcr &&
    reads .frame [0x57, 0xFF, 0xFF, 0xFF, 0xFF, 0x05] (.acmd23SetWrBlkEraseCount 0xFFFFFFFF) &&
    reads .frame [0x69, 0x40, 0x00, 0x00, 0x00, 0x77] .acmd41SdV2Hcs &&
    reads .frame [0x69, 0x00, 0x00, 0x00, 0x00, 0xE5] .acmd41SdV1 := by
  decide +kernel

/-- R127 to R129, R134 and R136, from the bit patterns of the opcode table. -/
theorem test_decode_responses_and_tokens :
    reads (.response .r1) [0b00000101] (.r1Status 0b0000101) &&
    reads (.response .r3) [0x00, 0xC0, 0xFF, 0x80, 0x00] (.r3StatusOcr 0 0xC0FF8000) &&
    reads (.response .r7) [0x01, 0x12, 0x34, 0x51, 0xAA] (.r7StatusEcho 1 0x12345 0x1AA) &&
    reads .token [0b11111111] .fillerNotBusy &&
    reads .token [0b11111110] .dataStartToken &&
    reads .token [0b11111100] .multiBlockWriteStartToken &&
    reads .token [0b11111101] .multiBlockStopToken &&
    reads .dataResponse [0b11100101] (.dataResponseAccepted 0b1110) &&
    reads .dataResponse [0b11101011] (.dataResponseRejected 0b1110 0b1011) := by
  decide +kernel

/-- Encodings the spec does not have: R122 (OPC, and `configure_exec 2,0,0,0` of V19), R123 (framing, stop bit), R126
(the CRC), R131 (no CMD63), R127 (bit 7), R134. -/
theorem test_decode_refuses :
    decide (decodeRequest [0x0F] = .error .illegalOpcode) &&
    decide (decodeRequest [0x27] = .error .illegalOpcode) &&
    decide (decodeRequest [0x0B, 2, 0, 0, 0, 0, 0] = .error .operandWidth) &&
    decide (decodeRequest [0x07, 0x20, 0, 0] = .error .operandWidth) &&
    decide (decodeRequest [0x01, 0, 0] = .error .truncated) &&
    decide (decodeFrame [0x00, 0, 0, 0, 0, 0x95] = .error .illegalFraming) &&
    decide (decodeFrame [0x40, 0, 0, 0, 0, 0x94] = .error .illegalFraming) &&
    decide (decodeFrame [0x40, 0, 0, 0, 0, 0x97] = .error .badCrc) &&
    decide (decodeFrame [0x7F, 0xFF, 0xFF, 0xFF, 0xFF, 0x19] = .error .notInCommandSet) &&
    decide (decodeResponse .r1 [0x80] = .error .notAStatus) &&
    decide (decodeToken [0x08] = .error .notAToken) &&
    decide (decodeCall ⟨.request, [0x02, 1]⟩ = .error .trailing) := by
  decide +kernel

/-- Words as the opcode table numbers them. -/
theorem test_decode_table_words :
    decide (decodeTableWord 8 0x06 = some .reset) &&
    decide (decodeTableWord 8 0x07 = some (.setCommand 0 0)) &&
    decide (decodeTableWord 48 0x400000000095 = some .cmd0GoIdleState) &&
    decide (decodeTableWord 48 0x5100000600 = none) &&
    decide (decodeTableWord 48 0x510000060021 = some (.cmd17ReadSingleBlock 0x600)) &&
    decide (decodeTableWord 40 0x00C0FF8000 = some (.r3StatusOcr 0 0xC0FF8000)) &&
    decide (decodeTableWord 40 0x01000001AA = some (.r7StatusEcho 1 0 0x1AA)) &&
    decide (decodeTableWord 8 0xFE = some .dataStartToken) &&
    decide (decodeTableWord 8 0x3F = some (.r1Status 0x3F)) &&
    decide (decodeTableWord 8 0xE5 = some (.dataResponseAccepted 0xE)) := by
  decide +kernel

/-! ### States for the one-step tests: the set-up of spec/95_test_vectors.md -/

/-- The outcome is a next state with this property. -/
def gives (o : Outcome) (p : State → Bool) : Bool :=
  match o with
  | .next t => p t
  | _ => false

/-- The outcome is this refusal. -/
def refuses (o : Outcome) (r : Refusal) : Bool :=
  match o with
  | .refused q => decide (q = r)
  | _ => false

/-- `bus_init` has run. -/
def setUp : State := State.reset.withLock ⟨true, none, []⟩

/-- Client 0 owns the bus for device 0 (A4). -/
def held : State := grant 0 0 (Device.reset 0 2) setUp

/-- ... and has called `reset`. -/
def blank : State := held.withEngine held.engine.cleared

/-- The same with another bit order in the latch. -/
def lsb : State := blank.withLatch { blank.latch with bitOrder := some .lsbFirst }

/-- A context at a step of a program, in a phase. -/
def ctxAt (pc : SeqPc) (ph : Phase) : Ctx := { Ctx.start pc none with phase := ph }

/-- Client 0 owns the bus and runs in this context. -/
def inside (x : Ctx) : State := held.withCtx x

/-- The next reads of TIME find it grown by these amounts. -/
def ticking (ts : List Nat) (s : State) : State := s.withEnv { s.env with ticks := ts }

/-- The MOSI bits that `execute` puts into SNAP. -/
def mosiOf (s : State) : Option (List Bool) := s.snap.map Snap.mosi

/-- A list of bits. -/
def bits (l : List Nat) : List Bool := l.map (· == 1)

/-- Client 0's last result. -/
def lastResult (s : State) : Option Result := (s.clients[0]?).bind fun cl => cl.results.getLast?

/-- Two requests of client 0, one after the other. -/
def andThen (o : Outcome) (i : Instr) : Outcome :=
  match o with
  | .next t => exec i t
  | f => f

/-- One instruction in `s`, then `execute`. -/
def executes (i : Instr) (s : State) : Outcome := andThen (exec i s) .execute

/-! ### Engine operations -/

/-- A1, A2. -/
theorem test_bus_init :
    gives (exec .busInit State.reset) (fun t => decide (t.lock = ⟨true, none, []⟩)) &&
    refuses (exec .busInit setUp) .lockExists := by decide +kernel

/-- A3, A4, A9: a free bus. -/
theorem test_acquire_free_bus :
    gives (exec (.acquire 1) setUp) (fun t => decide (t.lock = ⟨true, some 0, []⟩) &&
      decide (t.latch.dev = some 1) && decide (t.latch.mode = some 0) &&
      decide (t.latch.bitOrder = some .msbFirst) && decide (t.latch.csMode = some .software) &&
      decide (t.latch.sharedIo = some false) && decide (t.lines.demux = some 3) &&
      decide (t.lines.cs = some .deasserted) && decide (t.engine = Engine.reset)) &&
    refuses (exec (.acquire 0) State.reset) .noLock && refuses (exec (.acquire 99) setUp) .range := by
  decide +kernel

/-- A5, A7: an owned bus; R473: the owner's own call while its transaction is in flight. -/
theorem test_acquire_owned_bus :
    gives (exec (.acquire 1) (held.withCur 1)) (fun t => decide (t.lock = ⟨true, some 0, [(1, 1)]⟩)) &&
    gives (exec (.acquire 0) held) (fun t => decide (t.lock = ⟨true, some 0, [(0, 0)]⟩)) &&
    refuses (exec (.acquire 0) (held.withEngine { held.engine with busy := true })) .busy := by
  decide +kernel

/-- R50, R446 with DEMUX_BITS = 2: only the selector's two bits reach the pins. -/
theorem test_demux_pins_have_their_width :
    gives (exec (.acquire 0) (setUp.withDevices [Device.reset 0 5])) (fun t => decide (t.lines.demux = some 1)) := by
  decide +kernel

/-- A6, A8, V29. -/
theorem test_release :
    gives (exec .release held) (fun t => decide (t.lock = ⟨true, none, []⟩)) &&
    refuses (exec .release (held.withCur 1)) .notOwner &&
    refuses (exec .release (held.withEngine { held.engine with busy := true })) .busy := by
  decide +kernel

/-- R207. -/
theorem test_set_clock :
    gives (exec (.setClock 0xABCD) held) (fun t => decide (t.latch.clock = some 0xABCD)) := by
  decide +kernel

/-- R208, R209, V30. -/
theorem test_chip_select :
    gives (exec .csAssert held) (fun t => decide (t.lines.cs = some .asserted)) &&
    gives (exec .csDeassert (held.withCs .asserted)) (fun t => decide (t.lines.cs = some .deasserted)) &&
    refuses (exec .csAssert (held.withLatch { held.latch with csMode := some .hardware })) .csMode &&
    refuses (exec .csDeassert (held.withLatch { held.latch with csMode := some .hardware })) .csMode := by
  decide +kernel

/-- R210, A8. -/
theorem test_reset :
    gives (exec .reset (held.withEngine { held.engine with cmdEn := some true, cmdVal := some 1, inLen := some 9 }))
      (fun t => decide (t.engine.cmdEn = some false) && decide (t.engine.cmdVal = none) &&
        decide (t.engine.inLen = some 0)) &&
    refuses (exec .reset (held.withCur 1)) .notOwner := by decide +kernel

/-- V1, V2, V18. -/
theorem test_set_command :
    gives (executes (.setCommand 8 0x48) blank) (fun t => decide (mosiOf t = some (bits [0, 1, 0, 0, 1, 0, 0, 0]))) &&
    gives (executes (.setCommand 8 0x48) lsb) (fun t => decide (mosiOf t = some (bits [0, 0, 0, 1, 0, 0, 1, 0]))) &&
    refuses (exec (.setCommand 0 0) blank) .range && refuses (exec (.setCommand 17 0) blank) .range &&
    refuses (exec (.setCommand 4 0x10) blank) .range := by decide +kernel

/-- V3, V4. -/
theorem test_set_address :
    gives (executes (.setAddress 32 0x1AA) blank)
      (fun t => decide (mosiOf t = some (List.replicate 23 false ++ bits [1, 1, 0, 1, 0, 1, 0, 1, 0]))) &&
    gives (executes (.setAddress 32 0x1AA) lsb)
      (fun t => decide (mosiOf t = some (bits [0, 1, 0, 1, 0, 1, 0, 1, 1] ++ List.replicate 23 false))) := by
  decide +kernel

/-- V5, V7. -/
theorem test_set_output :
    gives (executes (.setOutput 8 0x100) (blank.withMem [(0x100, 0x95)]))
      (fun t => decide (mosiOf t = some (bits [1, 0, 0, 1, 0, 1, 0, 1]))) &&
    gives (executes (.setOutput 4 0x100) (blank.withMem [(0x100, 0xA5)]))
      (fun t => decide (mosiOf t = some (bits [1, 0, 1, 0]))) := by decide +kernel

/-- V9, V10, V11. -/
theorem test_set_output_pattern :
    gives (executes (.setOutputPattern 40 0x12345678) blank)
      (fun t => decide (mosiOf t = some (wireBits [0x78, 0x56, 0x34, 0x12, 0x78]))) &&
    gives (andThen (andThen (exec (.setOutputPattern 32 0x12345678) blank) (.configureExec true 0 0 false)) .execute)
      (fun t => decide (mosiOf t = some (wireBits [0x12, 0x34, 0x56, 0x78]))) &&
    refuses (andThen (andThen (exec (.setOutputPattern 40 0x12345678) blank) (.configureExec true 0 0 false)) .execute)
      .beLength := by decide +kernel

/-- V19, V20, V25. -/
theorem test_configure_exec :
    gives (executes (.configureExec false 256 512 false) blank)
      (fun t => decide (mosiOf t = some (List.replicate 768 true)) && decide (t.xferInLen = some 512)) &&
    refuses (exec (.configureExec false 257 0 false) blank) .range &&
    refuses (exec (.configureExec false 0 513 false) blank) .range &&
    refuses (executes (.configureExec false 0 16 true) blank) .beLength := by decide +kernel

/-- V16, V17. -/
theorem test_execute :
    gives (exec .execute blank) (fun t => t.engine.busy && decide (mosiOf t = some []) &&
      !(shifterStep t).engine.busy && decide ((shifterStep t).lines.sclk = t.lines.sclk)) &&
    refuses (exec .execute held) .undefField := by decide +kernel

/-- V28. -/
theorem test_wait :
    gives (exec .wait blank) (fun t => decide (lastResult t = some .done) && decide (t.engine = blank.engine)) &&
    gives (exec .wait (blank.withEngine { blank.engine with busy := true })) (fun t => t.engine.busy) &&
    refuses (exec (.setCommand 8 0x41) (blank.withEngine { blank.engine with busy := true })) .busy := by
  decide +kernel

/-- V24: `IN_BUF[0..3] = 44 33 22 11` reaches the buffer; R218: refused before any `execute`. -/
theorem test_read_result :
    gives (exec (.readResult 0x100)
      ((blank.withXfer (some 32)).withEngine { blank.engine with
        inBuf := [some 0x44, some 0x33, some 0x22, some 0x11] ++ List.replicate 60 none }))
      (fun t => decide (t.mem = [(0x100, 0x44), (0x101, 0x33), (0x102, 0x22), (0x103, 0x11)])) &&
    refuses (exec (.readResult 0x100) blank) .noTransfer := by decide +kernel

/-- V21, V22, V24: what the shifter packs. -/
theorem test_shifter_packs_samples :
    inStream .msbFirst (bits [0, 0, 0, 0, 0, 0, 0, 1]) 8 0 = [0x01] ∧
    inStream .lsbFirst (bits [0, 0, 0, 0, 0, 0, 0, 1]) 8 0 = [0x80] ∧
    (storeStream true 0 [0x11, 0x22, 0x33, 0x44] (List.replicate 64 none)).take 4 =
      [some 0x44, some 0x33, some 0x22, some 0x11] := by decide +kernel

/-- V21 by the shifter itself: eight events, then BUSY = 0 and `IN_BUF[0] = 0x01`. -/
theorem test_shifter_runs_a_transaction :
    gives (executes (.configureExec false 0 8 false) blank) (fun t =>
      let t := t.withEnv { t.env with miso := bits [0, 0, 0, 0, 0, 0, 0, 1] }
      (shifterRun 7 t).engine.busy && !(shifterRun 8 t).engine.busy &&
        decide ((shifterRun 8 t).engine.inBuf.take 2 = [some 0x01, none])) := by decide +kernel

/-! ### Commands, responses, tokens -/

/-- The command of client 0's context, as the bytes of its frame, and its response kind. -/
def sends (i : Instr) (bs : List Byte) (k : RespKind) : Bool :=
  gives (exec i (ticking [0] (inside (ctxAt .rdCommand .ready)))) fun t =>
    match t.ctx with
    | some x => decide (x.cmd.map (fun c => (frameBytes c.idx c.arg, c.kind)) = some (bs, k))
    | none => false

/-- The frames of section 2.3, and the response kinds of R133. -/
theorem test_command_rows :
    sends .cmd0GoIdleState [0x40, 0, 0, 0, 0, 0x95] .r1 &&
    sends .cmd1SendOpCond [0x41, 0, 0, 0, 0, 0xF9] .r1 &&
    sends .cmd8SendIfCond [0x48, 0, 0, 0x01, 0xAA, 0x87] .r7 &&
    sends .cmd9SendCsd [0x49, 0, 0, 0, 0, 0xAF] .r1 &&
    sends .cmd10SendCid [0x4A, 0, 0, 0, 0, 0x1B] .r1 &&
    sends .cmd12StopTransmission [0x4C, 0, 0, 0, 0, 0x61] .r1 &&
    sends .cmd16SetBlocklen [0x50, 0, 0, 0x02, 0, 0x15] .r1 &&
    sends (.cmd17ReadSingleBlock 5) [0x51, 0, 0, 0, 0x05, 0x0F] .r1 &&
    sends (.cmd18ReadMultipleBlock 0xA00) [0x52, 0, 0, 0x0A, 0, 0x7D] .r1 &&
    sends (.cmd24WriteBlock 0x600) [0x58, 0, 0, 0x06, 0, 0x1B] .r1 &&
    sends (.cmd25WriteMultipleBlock 0x600) [0x59, 0, 0, 0x06, 0, 0x77] .r1 &&
    sends (.cmd32EraseWrBlkStart 10) [0x60, 0, 0, 0, 0x0A, 0x6B] .r1 &&
    sends (.cmd33EraseWrBlkEnd 15) [0x61, 0, 0, 0, 0x0F, 0x5D] .r1 &&
    sends .cmd38Erase [0x66, 0, 0, 0, 0, 0xA5] .r1 &&
    sends .cmd55AppCmd [0x77, 0, 0, 0, 0, 0x65] .r1 &&
    sends .cmd58ReadOcr [0x7A, 0, 0, 0, 0, 0xFD] .r3 &&
    sends (.acmd23SetWrBlkEraseCount 3) [0x57, 0, 0, 0, 0x03, 0x19] .r1 &&
    sends .acmd41SdV2Hcs [0x69, 0x40, 0, 0, 0, 0x77] .r1 &&
    sends .acmd41SdV1 [0x69, 0, 0, 0, 0, 0xE5] .r1 := by decide +kernel

/-- Client 0's context after the step has this phase and no engine operation left. -/
def ends (o : Outcome) (ph : Phase) : Bool :=
  gives o fun t => match t.ctx with
    | some x => decide (x.phase = ph) && decide (x.micro = [])
    | none => false

/-- A context that has read this byte in this phase; TIME was `t0` when the wait of 100 ms began. -/
def got (ph : Phase) (b : Byte) (t0 : Nat) : Ctx :=
  { ctxAt .rdCommand ph with tmp := [b], pollT0 := some t0, limit := some 100, cmd := some ⟨58, 0, .r3⟩ }

/-- What the primitive of client 0 does with that byte, TIME being 100 at the next read of it. -/
def onByte (ph : Phase) (b : Byte) (t0 : Nat) : Outcome :=
  primitiveStep ((ticking [0] (inside (got ph b t0))).withTime 100) (got ph b t0)

/-- S1, S3. -/
theorem test_not_busy_wait :
    ends (onByte (.pollBusy false) 0xFF 0) (.done .ok) && ends (onByte (.pollBusy false) 0x00 0) (.done .timeout) &&
    gives (onByte (.pollBusy false) 0x00 1) (fun t => decide (t.ctx.map Ctx.micro = some (xferIn 1))) := by
  decide +kernel

/-- S17, S18, S19, B7. -/
theorem test_token_wait :
    ends (onByte .pollToken 0xFE 0) (.done .ok) && ends (onByte .pollToken 0x08 1) (.done .ioError) &&
    ends (onByte .pollToken 0xFF 0) (.done .timeout) &&
    gives (onByte .pollToken 0xFF 1) (fun t => decide (t.ctx.map Ctx.micro = some (xferIn 1))) := by
  decide +kernel

/-- S5, S6, S7, S12: the response window, and the 4 bytes behind the status. -/
theorem test_response_window :
    gives (onByte (.window 8) 0x00 0) (fun t => decide (t.ctx.map Ctx.phase = some .extended) &&
      decide (t.ctx.map Ctx.micro = some (xferIn 4))) &&
    ends (onByte (.window 8) 0xFF 0) (.done .timeout) &&
    gives (onByte (.window 1) 0x80 0) (fun t => decide (t.ctx.map Ctx.phase = some (.window 2))) &&
    gives (exec (.r3StatusOcr 0 0xC0FF8000) (inside (got .extended 0 0)))
      (fun t => decide (t.ctx.bind Ctx.ext = some 0xC0FF8000) &&
        decide (t.ctx.map Ctx.phase = some (.done (.reply 0x00)))) := by decide +kernel

/-- S9. -/
theorem test_data_response :
    ends (onByte .dataResponse 0xE5 0) (.done .ok) && ends (onByte .dataResponse 0x05 0) (.done .ok) &&
    ends (onByte .dataResponse 0x0B 0) (.done .rejected) && ends (onByte .dataResponse 0x0D 0) (.done .rejected) &&
    ends (onByte .dataResponse 0xFF 0) (.done .rejected) := by decide +kernel

/-! ### Pseudo-operations (R161) -/

/-- R251, R252: `xfer_in 1` gives the byte it read, and 0 or 65 bytes are refused. -/
theorem test_pseudo_transfers :
    gives (execPseudo (.xferIn 1) (inside { ctxAt .pseudo (.done .ok) with tmp := [0x5A] }))
      (fun t => decide (lastResult t = some (.bytes [0x5A]))) &&
    refuses (execPseudo (.xferIn 0) held) .range && refuses (execPseudo (.xferIn 65) held) .range &&
    refuses (execPseudo (.xferOut []) held) .range &&
    refuses (execPseudo (.xferOut (List.replicate 65 0)) held) .range &&
    refuses (execPseudo (.xferOut [0xFF]) (held.withCur 1)) .notOwner := by decide +kernel

/-- R253, R270: the deadline of a wait is its operand. -/
theorem test_pseudo_waits :
    gives (execPseudo (.waitNotBusy 7) (ticking [0] held)) (fun t => decide (t.ctx.bind Ctx.limit = some 7) &&
      decide (t.ctx.map Ctx.phase = some (.pollBusy false))) &&
    gives (execPseudo (.waitToken 7) (inside (ctxAt .pseudo (.done .ioError))))
      (fun t => decide (lastResult t = some (.seq .ioError))) := by decide +kernel

/-- R132, R266: an application command sends CMD55 first, and a status of 2 of it is IOError. -/
theorem test_pseudo_application_command :
    gives (exec .acmd41SdV1 (ticking [0] held)) (fun t => decide (t.ctx.bind Ctx.cmd = some ⟨55, 0, .r1⟩)) &&
    gives (exec .acmd41SdV1 (ticking [0] (inside (ctxAt .pseudo .ready))))
      (fun t => decide (t.ctx.bind Ctx.cmd = some ⟨41, 0, .r1⟩)) &&
    gives (execPseudo (.acmd 41 0 .r1) (inside (ctxAt .pseudoAppCmd (.done (.reply 0x02)))))
      (fun t => decide (lastResult t = some (.seq .ioError))) &&
    refuses (execPseudo (.sendCmd 64 0 .r1) held) .range := by decide +kernel

/-! ### Sequencer operations -/

/-- Client 0's context after the step is at this step of its program. -/
def goes (o : Outcome) (pc : SeqPc) : Bool := gives o fun t => decide (t.ctx.map Ctx.pc = some pc)

/-- I8, I9 and the SD-v2 and SD-v1 answers of I1 and I4. -/
theorem test_sd_initialize_classifies :
    goes (exec (.sdInitialize 0) (inside { ctxAt .i3SendIfCond (.done (.reply 0x01)) with ext := some 0x155 }))
      (.iFail .ioError) &&
    goes (exec (.sdInitialize 0) (inside { ctxAt .i3SendIfCond (.done (.reply 0x00)) with ext := some 0x1AA }))
      (.iFail .ioError) &&
    goes (exec (.sdInitialize 0) (inside { ctxAt .i3SendIfCond (.done (.reply 0x01)) with ext := some 0x1AA }))
      .i4BringUp &&
    goes (exec (.sdInitialize 0) (inside { ctxAt .i3SendIfCond (.done (.reply 0x05)) with ext := some 0xFFFFFFFF }))
      .i4BringUp := by decide +kernel

/-- R58, R299 to R301: the bring-up command and its argument, for an SD-v2 and an SD-v1 card. -/
theorem test_bring_up_command :
    gives (exec (.sdInitialize 0) (ticking [0] (inside { ctxAt .i4BringUp .ready with cand := some .sdV2 })))
      (fun t => decide (t.ctx.bind Ctx.bringUp = some ⟨41, 0x40000000, .r1⟩)) &&
    gives (exec (.sdInitialize 0) (ticking [0] (inside { ctxAt .i4BringUp .ready with cand := some .sdV1 })))
      (fun t => decide (t.ctx.bind Ctx.bringUp = some ⟨41, 0, .r1⟩)) := by decide +kernel

/-- I1, I7: the OCR. -/
theorem test_initialize_reads_the_ocr :
    gives (exec (.upInitialize 0) (inside { ctxAt .i5ReadOcr (.done (.reply 0x00)) with ext := some 0xC0FF8000 }))
      (fun t => decide ((t.devices[0]?).map Device.hc = some true)) &&
    gives (exec (.upInitialize 0) (inside { ctxAt .i5ReadOcr (.done (.reply 0x00)) with ext := some 0x80FF8000 }))
      (fun t => decide ((t.devices[0]?).map Device.hc = some false)) := by decide +kernel

/-- B8, B10 and R330: a block whose address does not fit, and a count of 0, are refused. -/
theorem test_sd_read :
    refuses (exec (.sdRead 0 0x800000 1 0x1000) (inside (ctxAt .rdCommand .ready))) .addrRange &&
    refuses (exec (.sdRead 0 0 0 0x1000) setUp) .countZero &&
    goes (exec (.sdRead 0 0 1 0x1000) (inside (ctxAt .rdCommand (.done (.reply 0x04))))) (.leaving .ioError) := by
  decide +kernel

/-- B4: the second block of two, and what follows it. -/
theorem test_read :
    goes (exec (.upRead 0 5 2 0x1000) (inside { ctxAt .rdTrailer (.done .ok) with k := some 0 })) .rdToken &&
    goes (exec (.upRead 0 5 2 0x1000) (inside { ctxAt .rdTrailer (.done .ok) with k := some 1 })) .rdStop := by
  decide +kernel

/-- B10, B12. -/
theorem test_sd_write :
    refuses (exec (.sdWrite 0 0 0 0x1000) setUp) .countZero &&
    goes (exec (.sdWrite 0 3 1 0x1000) (inside (ctxAt .wrResponse (.done .rejected)))) (.leaving .ioError) := by
  decide +kernel

/-- B13, B14: the pre-announcement, and its absence for an MMC card; program P4: the abort. -/
theorem test_write :
    goes (exec (.upWrite 0 3 2 0x1000) ((inside (ctxAt .beginCs (.done .ok))).withSession 0 (.ready .sdV2))) .mwAppCmd &&
    goes (exec (.upWrite 0 3 2 0x1000) ((inside (ctxAt .beginCs (.done .ok))).withSession 0 (.ready .mmc))) .mwCommand &&
    goes (exec (.upWrite 0 3 2 0x1000) (inside (ctxAt .mwResponse (.done .rejected)))) (.mwAbort .ioError) := by
  decide +kernel

/-- R355: the three commands of an erase follow each other. -/
theorem test_sd_erase :
    goes (exec (.sdErase 0 10 15) (inside (ctxAt .erStart (.done (.reply 0x00))))) .erEnd &&
    goes (exec (.sdErase 0 10 15) (inside (ctxAt .erEnd (.done (.reply 0x00))))) .erErase := by
  decide +kernel

/-- R89, R370, R371: 16 received bytes reach the caller in the order received, or reversed. -/
theorem test_register_reads :
    let w : List Byte := [1, 2, 3, 4, 5, 6, 7, 8, 9, 10, 11, 12, 13, 14, 15, 16]
    gives (exec (.sdReadCid 0 0x100) (inside { ctxAt .rgStore .ready with image := w }))
      (fun t => decide (t.byteAt 0x100 = 1) && decide (t.byteAt 0x10F = 16)) &&
    gives (exec (.sdReadCsd 0 0x100) (inside { ctxAt .rgStore .ready with image := w }))
      (fun t => decide (t.byteAt 0x100 = 16) && decide (t.byteAt 0x10F = 1)) := by decide +kernel

/-- Section 2.7, CSD vectors R1 (X2), R4, R5, R6, R8, R9, R10: the capacity of what `sd_read_csd` stores. -/
theorem test_csd_capacity :
    csdCapacity [0x01, 0, 0, 0, 0, 0x80, 0x03, 0xC0, 0xFF, 0x00, 0x0A, 0, 0, 0, 0, 0] = some 1048576#32 ∧
    csdCapacity [0x01, 0, 0, 0, 0, 0x80, 0x03, 0xC0, 0xFF, 0x03, 0x0F, 0, 0, 0, 0, 0] = some 134217728#32 ∧
    csdCapacity [0x01, 0, 0, 0, 0, 0, 0, 0, 0, 0, 0x09, 0, 0, 0, 0, 0] = some 4#32 ∧
    csdCapacity [0x01, 0, 0, 0, 0, 0x80, 0x03, 0xC0, 0xFF, 0x00, 0x08, 0, 0, 0, 0, 0] = none ∧
    csdCapacity [0x01, 0, 0, 0, 0, 0, 0xFE, 0xFF, 0x3F, 0, 0x09, 0, 0, 0, 0, 0x40] = some 4294966272#32 ∧
    csdCapacity [0x01, 0, 0, 0, 0, 0, 0xFF, 0xFF, 0x3F, 0, 0x09, 0, 0, 0, 0, 0x40] = none ∧
    csdCapacity [0x01, 0, 0, 0, 0, 0, 0, 0, 0, 0, 0, 0, 0, 0, 0, 0x80] = some 0#32 := by decide +kernel

/-- Section 2.7, the CID vector. -/
theorem test_cid_decode :
    cidDecode [0x03, 0x53, 0x44, 0x53, 0x55, 0x30, 0x38, 0x47, 0x80, 0x12, 0x34, 0x56, 0x78, 0x00, 0xD6, 0x0B] =
      { mid := 0x03, oid := [0x53, 0x44], pnm := [0x53, 0x55, 0x30, 0x38, 0x47], prv := 0x80, psn := 0x12345678
        mdtYear := 2013, mdtMonth := 6, crc := 0x05 } ∧
    crc7 [0x03, 0x53, 0x44, 0x53, 0x55, 0x30, 0x38, 0x47, 0x80, 0x12, 0x34, 0x56, 0x78, 0x00, 0xD6] = 0x05 := by
  decide +kernel

/-- X3: the block count of that V2 CSD, C_SIZE = 0x3998 in bits 69:48 (R382), and its delivery. -/
theorem test_block_count_v2 :
    gives (exec (.blockCount 0) (inside { ctxAt (.leaving .ok) (.done .ok) with
      image := [0x40, 0, 0, 0, 0, 0x09, 0x00, 0x00, 0x39, 0x98, 0, 0, 0, 0, 0, 0] }))
      (fun t => decide (lastResult t = some (.number 15098880#32))) := by decide +kernel

/-- R400, R405, R406, R407. -/
theorem test_status_and_sizes :
    gives (exec (.status 0) (setUp.withSession 0 (.ready .sdhc))) (fun t => decide (lastResult t = some .ready)) &&
    gives (exec (.status 0) setUp) (fun t => decide (lastResult t = some .notReady)) &&
    gives (exec (.status 9) setUp) (fun t => decide (lastResult t = some .notReady)) &&
    gives (exec (.sectorSize 9) setUp) (fun t => decide (lastResult t = some (.number 512))) &&
    gives (exec (.eraseGranularity 9) setUp) (fun t => decide (lastResult t = some (.number 1))) := by
  decide +kernel

/-- D10, R452: before `bus_init`. -/
theorem test_calls_before_bus_init :
    ([.acquire 0, .status 0, .sectorSize 0, .eraseGranularity 0, .upInitialize 9, .upRead 9 0 1 0, .upWrite 9 0 1 0,
      .blockCount 9, .sdInitialize 0] : List Instr).all (fun i => refuses (exec i State.reset) .noLock) := by
  decide +kernel

/-- The table's words of `bus_init` and `sector_size`, placed where the next step fetches, are run by it. -/
theorem test_step_runs_the_placed_word :
    gives (step (State.reset.withFetchWord 8 0x00)) (fun t => decide (t.lock = ⟨true, none, []⟩)) &&
    gives (step (setUp.withFetchWord 8 0x25)) (fun t => decide (lastResult t = some (.number 512))) &&
    refuses (step (State.reset.withFetchWord 8 0x25)) .noLock := by decide +kernel

/-! ### Witnesses: for every statement with hypotheses, a state and operands that meet them -/

theorem held_ready : held.ready := ⟨by decide, rfl⟩

theorem inside_awaits (x : Ctx) (h : x.micro = []) : (inside x).awaits x x.phase := ⟨rfl, h, rfl⟩

theorem inside_stands (x : Ctx) (h : x.micro = []) : (inside x).stands x x.pc x.phase := ⟨inside_awaits x h, rfl⟩

/-- At every step of a program, in every phase, a state of the set-up stands. -/
theorem stands_anywhere (pc : SeqPc) (ph : Phase) :
    ∃ s x, State.stands s x pc ph ∧ s.devices[0]? = some (Device.reset 0 2) :=
  ⟨_, _, inside_stands (ctxAt pc ph) rfl, rfl⟩

/-- A read of 8 bits is in flight. -/
def reading : State := blank.started (snapOf [] 0 8 false .msbFirst .software)

/-- The agent whose turn it is. -/
def turn (a : Config.Agent) (s : State) : State := s.withEnv { s.env with sched := a :: s.env.sched }

/-- Client 0 is calling this. -/
def calling (i : Instr) (s : State) : State := s.changeClient 0 fun cl => { cl with calls := [.encoded (callOf i)] }

/-- Client 0 is at I7 of an initialization of device 0, with an SD-v2 card. -/
def atReady : State := turn (.client 0) (calling (.sdInitialize 0) (inside { ctxAt .i7Ready .ready with cand := some .sdV2 }))

/-- A state in which client 0's first step fetches this instruction. -/
def asked (i : Instr) : State := setUp.withCall (callOf i)

theorem set_up_selectors (d : Nat) (dv : Device) (h : setUp.devices[d]? = some dv) : dv.demux < 2 ^ 2 := by
  match d with
  | 0 => cases h; decide
  | 1 => cases h; decide
  | n + 2 => cases h

theorem blank_legal : blank.engine.Legal where
  outSize := rfl
  inSize := rfl
  command := by intro h; cases h
  address := by intro h; cases h
  output := by intro h; cases h
  dummy := by intro n h; cases h; decide
  input := by intro n h; cases h; decide

theorem blank_inv : Inv blank where
  memory := rfl
  engine := blank_legal
  present := rfl
  snapshot := by intro p h; cases h
  xfer := by intro n h; cases h
  result := by intro n h; cases h
  noLock := by intro h; cases h
  inFlight := by intro h; cases h
  programmed := fun _ => rfl
  latch := by intro d h; cases h; exact ⟨_, rfl, rfl, rfl, rfl, rfl, rfl, rfl, rfl⟩
  selectors := set_up_selectors
  pins := by intro n h; cases h; decide
  waiters := .nil
  waited := by intro p h; cases h

theorem reading_snap_legal : (snapOf [] 0 8 false .msbFirst .software).Legal where
  inside := .inl (by decide)
  length := by decide
  input := by decide
  phases := by decide
  held := by
    intro k _ hk
    show (List.replicate 8 true)[k]? = some true
    rw [List.getElem?_replicate]
    exact if_pos hk
  kept := rfl
  groups := by intro h; cases h

theorem empty_snap_legal : (snapOf [] 0 0 false .msbFirst .hardware).Legal where
  inside := .inr rfl
  length := by decide
  input := by decide
  phases := by decide
  held := by intro k _ hk; cases hk
  kept := rfl
  groups := by intro h; cases h

theorem reading_inv : Inv reading where
  memory := rfl
  engine := ⟨rfl, rfl, blank_legal.command, blank_legal.address, blank_legal.output, blank_legal.dummy, blank_legal.input⟩
  present := rfl
  snapshot := by intro p h; cases h; exact ⟨reading_snap_legal, rfl⟩
  xfer := by intro n h; cases h; decide
  result := by intro n _ h; cases h
  noLock := by intro h; cases h
  inFlight := fun _ => rfl
  programmed := fun _ => rfl
  latch := by intro d h; cases h; exact ⟨_, rfl, rfl, rfl, rfl, rfl, rfl, rfl, rfl⟩
  selectors := set_up_selectors
  pins := by intro n h; cases h; decide
  waiters := .nil
  waited := by intro p h; cases h

theorem atReady_holdsBus : HoldsBus atReady where
  noLock := by intro h; cases h
  legal := by
    intro c cl x hc hx
    match c with
    | 0 =>
      cases hc; cases hx
      exact ⟨fun d h => (List.not_mem_nil h).elim, fun h => (List.not_mem_nil h).elim, fun r h => (by cases h),
        (fun h => by cases h), fun _ _ _ _ h => by cases h⟩
    | 1 => cases hc; cases hx
    | 2 => cases hc; cases hx
    | n + 3 => cases hc
  owner := by
    intro c cl x hc hx
    match c with
    | 0 => exact .inr (.inr rfl)
    | 1 => cases hc; cases hx
    | 2 => cases hc; cases hx
    | n + 3 => cases hc

theorem inside_holdsBus (x : Ctx) (h : x.Legal) : HoldsBus (inside x) where
  noLock := by intro h; cases h
  legal := by
    intro c cl y hc hy
    match c with
    | 0 => cases hc; cases hy; exact h
    | 1 => cases hc; cases hy
    | 2 => cases hc; cases hy
    | n + 3 => cases hc
  owner := by
    intro c cl y hc hy
    match c with
    | 0 => exact .inr (.inr rfl)
    | 1 => cases hc; cases hy
    | 2 => cases hc; cases hy
    | n + 3 => cases hc

theorem leaving_legal : (ctxAt (.leaving .ok) (.done .ok)).Legal :=
  ⟨fun _ h => (List.not_mem_nil h).elim, fun h => (List.not_mem_nil h).elim, fun _ _ => .inr ⟨_, rfl⟩,
    (fun h => by cases h), fun _ _ _ _ h => by cases h⟩

theorem pseudo_legal : (ctxAt .pseudo (.done .ok)).Legal :=
  ⟨fun _ h => (List.not_mem_nil h).elim, fun h => (List.not_mem_nil h).elim, fun _ h => (by cases h),
    (fun h => by cases h), fun _ _ _ _ h => by cases h⟩

theorem atReady_flagInv : FlagInv atReady where
  settled := by
    intro d dv hd
    match d with
    | 0 => cases hd; trivial
    | 1 => cases hd; trivial
    | n + 2 => cases hd
  running := by
    intro c cl x d dv hc hx _ hd
    match c with
    | 0 =>
      cases hc; cases hx
      match d with
      | 0 => cases hd; exact ⟨rfl, by decide⟩
      | 1 => cases hd; exact ⟨rfl, by decide⟩
      | n + 2 => cases hd
    | 1 => cases hc; cases hx
    | 2 => cases hc; cases hx
    | n + 3 => cases hc

theorem test_witness_DecodeReadsEveryEncoding :
    (Instr.sdRead (2 ^ 32 - 1) (2 ^ 32 - 1) (2 ^ 32 - 1) (2 ^ 32 - 1)).wellFormed &&
    (Instr.configureExec true 511 1023 true).wellFormed && (Instr.dataResponseRejected 15 4).wellFormed := by
  decide +kernel

theorem test_witness_DecodedBytesAreTheEncoding :
    decodeAt .request [0x02, 9] = .ok (.release, [9]) ∧
    decodeAt (.response .r1) [0x7F] = .ok (.r1Status 0x7F, []) := by decide +kernel

theorem test_witness_UnmappedOpcodesAreRefused :
    ([0x0F, 0x16, 0x1F, 0x27, 0xFF] : List Byte).all (fun o => decide (decodeRequest [o] = .error .illegalOpcode)) ∧
    ([0x00, 0x0E, 0x10, 0x15, 0x20, 0x26] : List Byte).all
      (fun o => decide (decodeRequest [o] ≠ .error .illegalOpcode)) ∧
    ∃ s s' : State, s.nextAgent = (.client 0, s') ∧ s'.pendingCall 0 = some (.encoded ⟨.request, [0x0F]⟩) :=
  ⟨by decide +kernel, by decide +kernel, State.reset.withCall ⟨.request, [0x0F]⟩, _, rfl, rfl⟩

theorem test_witness_DataResponseIsItsLowNibble : (0xF5#8 &&& 0x0F#8) = 0x05#8 ∧ (0x54#8 &&& 0x0F#8) ≠ 0x05#8 := by
  decide

theorem test_witness_StepRunsTheDecodedInstruction :
    (∃ s' : State, (asked .busInit).nextAgent = (.client 0, s') ∧
      s'.pendingCall 0 = some (.encoded (callOf .busInit))) ∧
    decodeCall (callOf .busInit) = .ok .busInit ∧ (Instr.busInit).wellFormed = true ∧
    (∃ s s' : State, s.nextAgent = (.client 0, s') ∧ s'.pendingCall 0 = some (.pseudo (.xferIn 1))) ∧
    ∃ s' : State, (turn .shifter setUp).nextAgent = (.shifter, s') :=
  ⟨⟨_, rfl, rfl⟩, by decide +kernel, rfl,
    ⟨turn (.client 0) (held.changeClient 0 fun cl => { cl with calls := [.pseudo (.xferIn 1)] }), _, rfl, rfl⟩, _, rfl⟩

theorem test_witness_StepKeepsTheInvariant : ∃ s t : State, Inv s ∧ step s = .next t :=
  ⟨turn .shifter reading, _, ⟨reading_inv.memory, reading_inv.engine, rfl, reading_inv.snapshot, reading_inv.xfer,
    reading_inv.result, reading_inv.noLock, reading_inv.inFlight, reading_inv.programmed, reading_inv.latch,
    reading_inv.selectors, reading_inv.pins, reading_inv.waiters, reading_inv.waited⟩, rfl⟩

theorem test_witness_OperationsHoldTheBus : ∃ s t : State, HoldsBus s ∧ step s = .next t :=
  ⟨atReady, _, atReady_holdsBus, rfl⟩

theorem test_witness_FlagAgreesWithType : ∃ s t : State, HoldsBus s ∧ FlagInv s ∧ step s = .next t :=
  ⟨atReady, _, atReady_holdsBus, atReady_flagInv, rfl⟩

theorem test_witness_ConfigurationNeverChanges :
    ∃ (s t : State) (dv dv' : Device), step s = .next t ∧ s.devices[0]? = some dv ∧ t.devices[0]? = some dv' :=
  ⟨atReady, _, _, _, rfl, rfl, rfl⟩

theorem test_witness_OnlyInitializeWritesFlagAndSession :
    (∃ (s t : State) (dv dv' : Device), initializes (.status 0) = false ∧ exec (.status 0) s = .next t ∧
      s.devices[0]? = some dv ∧ t.devices[0]? = some dv') ∧
    ∃ (s t : State) (dv dv' : Device), execPseudo (.waitNotBusy 5) s = .next t ∧ s.devices[0]? = some dv ∧
      t.devices[0]? = some dv' :=
  ⟨⟨setUp, _, _, _, rfl, rfl, rfl, rfl⟩, held, _, _, _, rfl, rfl, rfl⟩

theorem test_witness_OnlyTheOwnerDrivesTheBus :
    (∃ s t : State, s.lock.ready = true ∧ s.lock.owner = some 0 ∧ s.cur ≠ 0 ∧ exec (.acquire 1) s = .next t) ∧
    ∃ s t : State, s.lock.ready = true ∧ s.lock.owner = some 0 ∧ s.cur ≠ 0 ∧ execPseudo (.waitNotBusy 5) s = .next t :=
  ⟨⟨held.withCur 1, _, rfl, rfl, by decide, rfl⟩,
    (held.withCur 1).withCtx (ctxAt .pseudo (.done .ok)), _, rfl, rfl, by decide, rfl⟩

theorem test_witness_StepsLeaveOthersAlone :
    ∃ (s t u : State) (dv dv' : Device), exec .csAssert s = .next t ∧ execPseudo (.waitNotBusy 5) s = .next u ∧
      1 ≠ s.cur ∧ s.devices[0]? = some dv ∧ t.devices[0]? = some dv' ∧ u.devices[0]? = some dv' :=
  ⟨held, _, _, _, _, rfl, rfl, by decide, rfl, rfl, rfl⟩

/-- A block read of client 0 has a chunk of two bytes to store at 0x100. -/
def chunkRead : Ctx := { ctxAt .rdData (.streamIn (.memory 0x100) 0 2) with tmp := [1, 2] }

theorem test_witness_MemoryFrame :
    (∃ s t : State, stores .csAssert = false ∧ (∀ x, s.ctx = some x → ¬ ∃ b o l, x.phase = .streamIn (.memory b) o l) ∧
      exec .csAssert s = .next t) ∧
    (∃ s t : State, Memory.wf s.mem = true ∧ exec (.readResult 0x100) s = .next t ∧ s.xferInLen = some 0) ∧
    (∃ s t : State, Memory.wf s.mem = true ∧ exec (.sdRead 0 0 1 0x100) s = .next t ∧ s.ctx = some chunkRead) ∧
    (∃ s t : State, Memory.wf s.mem = true ∧ exec (.sdReadCid 0 0x100) s = .next t ∧
      s.ctx = some { ctxAt .rgStore .ready with image := [7] }) ∧
    ∃ s t : State, HoldsBus s ∧ execPseudo (.waitNotBusy 5) s = .next t :=
  ⟨⟨held, _, rfl, (by intro x h; cases h), rfl⟩, ⟨blank.withXfer (some 0), _, rfl, rfl, rfl⟩,
    ⟨inside chunkRead, _, rfl, rfl, rfl⟩, ⟨inside { ctxAt .rgStore .ready with image := [7] }, _, rfl, rfl, rfl⟩,
    inside (ctxAt .pseudo (.done .ok)), _, inside_holdsBus _ pseudo_legal, rfl⟩

theorem test_witness_NestedAcquireIsStuck :
    ∃ s t : State, (1 : Nat) < 2 ^ 32 ∧ s.nestedAcquire 0 1 ∧ step s = .next t :=
  ⟨turn .shifter (calling (.acquire 1) held), _, by decide, ⟨rfl, rfl, rfl, by decide, _, rfl, rfl, rfl⟩, rfl⟩

theorem test_witness_BusInitCreatesTheLock : State.reset.lock.ready = false ∧ setUp.lock.ready = true := ⟨rfl, rfl⟩

/-- Client 1 takes the step while client 0's transaction is in flight. -/
def contended : State := reading.withCur 1

/-- A client that waits already is not refused for another's transaction, and a new call of a client that does not
own the bus is refused or waits as the free constant has it (R202, R425). -/
theorem test_acquire_busy :
    gives (exec (.acquire 1) (contended.withLock { contended.lock with waiters := [(1, 1)] }))
      (fun t => decide (t.lock = ⟨true, some 0, [(1, 1)]⟩)) = true ∧
    busyRefused 1 1 contended = !Config.busyAcquireWaits := ⟨by decide +kernel, rfl⟩

theorem test_witness_AcquireTakesTheBusOrWaits :
    (setUp.lock.ready = true ∧ setUp.lock.owner = none ∧ setUp.devices[1]? = some (Device.reset 1 3)) ∧
    (Device.reset 1 3).demux < 2 ^ setUp.cfg.demuxBits ∧
    (held.lock.owner = some 0 ∧ held.devices[1]? = some (Device.reset 1 3) ∧ 0 ≠ (held.withCur 1).cur ∧
      held.engine.busy = false) ∧
    (reading.lock.owner = some reading.cur ∧ reading.engine.busy = true ∧
      reading.devices[0]? = some (Device.reset 0 2)) ∧
    (contended.lock.owner = some 0 ∧ contended.engine.busy = true ∧ 0 ≠ contended.cur ∧
      (contended.cur, 1) ∉ contended.lock.waiters ∧ contended.devices[1]? = some (Device.reset 1 3)) ∧
    (contended.cur, 1) ∈ ({ contended.lock with waiters := [(1, 1)] } : Lock).waiters ∧ State.reset.lock.ready = false ∧
    setUp.devices.length ≤ 2 :=
  ⟨⟨rfl, rfl, rfl⟩, by decide, ⟨rfl, rfl, by decide, rfl⟩, ⟨rfl, rfl, rfl⟩,
    ⟨rfl, rfl, by decide, by decide, rfl⟩, by decide, rfl, by decide⟩

theorem test_witness_ReleaseFreesTheBus :
    held.ready ∧ (held.withCur 1).owns (held.withCur 1).cur = false ∧
    (reading.owns reading.cur = true ∧ reading.engine.busy = true) :=
  ⟨held_ready, by decide, by decide, rfl⟩

theorem test_witness_EngineRefusals :
    (ownerOnly .csAssert = true ∧ State.reset.lock.ready = false) ∧
    (ownerOnly .wait = true ∧ (held.withCur 1).lock.owner ≠ some (held.withCur 1).cur) ∧
    (ownerOnly .execute = true ∧ waits .execute = false ∧ reading.engine.busy = true) ∧
    (held.ready ∧ 16 < 17 ∧ 2 ^ 4 ≤ (0x10#16).toNat ∧ 32 < 33 ∧ 2 ^ 32 - 1 = (0xFFFFFFFF#32).toNat ∧ 512 < 513 ∧
      256 < 257 ∧ held.readBuffer 0 (ceil8 513) ≠ none) ∧
    (held.engine.cmdEn = none ∧ held.engine.addrEn = none ∧ held.engine.outEn = none ∧ held.engine.dummyLen = none ∧
      held.engine.inLen = none ∧ held.engine.outBe = none ∧ held.engine.inBe = none) :=
  ⟨⟨rfl, rfl⟩, ⟨rfl, by decide⟩, ⟨rfl, rfl, rfl⟩,
    ⟨held_ready, by decide, by decide, by decide, by decide, by decide, by decide, by decide +kernel⟩,
    rfl, rfl, rfl, rfl, rfl, rfl, rfl⟩

/-- Client 1 runs an operation that owns the 512 bytes from 0x100; client 0 owns the bus. -/
def claimed (s : State) : State :=
  s.changeClient 1 fun cl => { cl with ctx := some (Ctx.start .rdData (some (0x100, 512))) }

theorem test_witness_EngineRefusals_buffers :
    (∃ s : State, s.lock.owner = some s.cur ∧ s.engine.busy = true) ∧
    (∃ s : State, ownedByOther s.cur 0x2FF (ceil8 8) 0 s.clients = true) ∧
    ∃ s : State, s.owns s.cur = true ∧ s.engine.busy = false ∧ s.xferInLen = some 8 ∧
      (∀ j, j < ceil8 8 → ∃ b, s.engine.inBuf[j]? = some (some b)) ∧
      ownedByOther s.cur 0x100 (ceil8 8) 0 s.clients = true :=
  ⟨⟨reading, rfl, rfl⟩, ⟨claimed held, by decide +kernel⟩,
    claimed ((blank.withXfer (some 8)).withEngine { blank.engine with inBuf := some 9 :: List.replicate 63 none }),
    by decide, rfl, rfl, (by intro j hj; have : j = 0 := by simp only [ceil8] at hj; omega
                             subst this; exact ⟨9, rfl⟩), by decide +kernel⟩

/-- The engine with a big-endian output of 40 bits and a big-endian input of 16. -/
def bigEndian : State := blank.withEngine { blank.engine with
  outEn := some true, outBe := some true, outLen := some 40, inBe := some true, inLen := some 16 }

theorem test_witness_EngineRefusals_big_endian :
    bigEndian.ready ∧ bigEndian.engine.outEn = some true ∧ bigEndian.engine.outBe = some true ∧
    bigEndian.engine.outLen = some 40 ∧ 40 % 32 ≠ 0 ∧ bigEndian.engine.inBe = some true ∧
    bigEndian.engine.inLen = some 16 ∧ 16 % 32 ≠ 0 :=
  ⟨⟨by decide, rfl⟩, rfl, rfl, rfl, by decide, rfl, rfl, by decide⟩

theorem test_witness_BusLineOperations :
    held.ready ∧ held.latch.csMode = some .software ∧
    ∃ s : State, s.ready ∧ s.latch.csMode = some .hardware :=
  ⟨held_ready, rfl, held.withLatch { held.latch with csMode := some .hardware }, ⟨by decide, rfl⟩, rfl⟩

theorem test_witness_ResetClearsTheFields : ∃ s : State, s.ready := ⟨held, held_ready⟩

theorem test_witness_CommandAddressAndShape :
    held.ready ∧ (1 ≤ 16 ∧ 16 ≤ 16 ∧ (0xFFFF#16).toNat < 2 ^ 16) ∧ (1 ≤ 1 ∧ 1 ≤ 16 ∧ (1#16).toNat < 2 ^ 1) ∧
    (32 ≤ 32 ∧ (0xFFFFFFFF#32).toNat < 2 ^ 32) ∧ 256 ≤ 256 ∧ 512 ≤ 512 := ⟨held_ready, by decide⟩

theorem test_witness_OutputField :
    held.ready ∧ 1 ≤ 512 ∧ 512 ≤ 512 ∧ held.readBuffer 7 (ceil8 512) = some (List.replicate 64 0) ∧
    held.readBuffer 7 (ceil8 1) = some [0] := ⟨held_ready, by decide, by decide, by decide +kernel, by decide +kernel⟩

/-- The longest command and address fields, an output, and dummy and input phases. -/
def allFields : State := blank.withEngine
  { blank.engine with
    cmdEn := some true, cmdLen := some 16, cmdVal := some 0xFFFF, addrEn := some true, addrLen := some 32
    addrVal := some 1, outEn := some true, outLen := some 512, outBuf := List.replicate 64 (some 0)
    outBe := some true, dummyLen := some 256, inLen := some 512, inBe := some true }

theorem test_witness_ExecuteSnapshotsTheTransaction :
    allFields.ready ∧ allFields.latch.bitOrder = some .msbFirst ∧ allFields.latch.csMode = some .software ∧
    allFields.engine.cmdEn = some true ∧ (allFields.engine.cmdLen = some 16 ∧ allFields.engine.cmdVal = some 0xFFFF) ∧
    allFields.engine.addrEn = some true ∧ (allFields.engine.addrLen = some 32 ∧ allFields.engine.addrVal = some 1) ∧
    allFields.engine.outEn = some true ∧ (allFields.engine.outLen = some 512 ∧
      outStream allFields.engine.outBuf true (ceil8 512) = some (List.replicate 64 0) ∧ 512 % 32 = 0) ∧
    allFields.engine.outBe = some true ∧ allFields.engine.inBe = some true ∧ allFields.engine.dummyLen = some 256 ∧
    allFields.engine.inLen = some 512 :=
  ⟨⟨by decide, rfl⟩, rfl, rfl, rfl, ⟨rfl, rfl⟩, rfl, ⟨rfl, rfl⟩, rfl, ⟨rfl, by decide +kernel, rfl⟩, rfl, rfl, rfl, rfl⟩

theorem test_witness_TransactionsAreBounded :
    (∃ s t : State, Inv s ∧ exec .execute s = .next t) ∧ ∃ s : State, Inv s ∧ s.engine.busy = true :=
  ⟨⟨blank, _, blank_inv, rfl⟩, reading, reading_inv, rfl⟩

theorem test_witness_WaitAndReadResult :
    (held.owns held.cur = true ∧ held.engine.busy = false ∧ held.xferInLen = none) ∧
    (reading.owns reading.cur = true ∧ reading.engine.busy = true ∧ reading.xferInLen = some 8) ∧
    ∃ s : State, s.owns s.cur = true ∧ Memory.wf s.mem = true ∧ s.engine.busy = false ∧ s.xferInLen = some 8 ∧
      (∀ j, j < ceil8 8 → ∃ b, s.engine.inBuf[j]? = some (some b) ∧ ([9] : List Byte)[j]? = some b) ∧
      ([9] : List Byte).length = ceil8 8 ∧ ownedByOther s.cur 0x100 (ceil8 8) 0 s.clients = false :=
  ⟨⟨by decide, rfl, rfl⟩, ⟨by decide, rfl, rfl⟩,
    (blank.withXfer (some 8)).withEngine { blank.engine with inBuf := some 9 :: List.replicate 63 none },
    by decide, rfl, rfl, rfl, (by intro j hj; have : j = 0 := by simp only [ceil8] at hj; omega
                                  subst this; exact ⟨9, rfl, rfl⟩), rfl, by decide⟩

theorem test_witness_ShifterMovesTheBits :
    (∃ (s : State) (p : Snap), s.snap = some p ∧ p.pos < p.mosi.length ∧ s.latch.sharedIo ≠ some true) ∧
    (∃ (s : State) (p : Snap), s.snap = some p ∧ p.pos < p.mosi.length ∧ s.latch.sharedIo = some true ∧
      p.driven ≤ p.pos) ∧
    (∃ (s : State) (p : Snap), s.snap = some p ∧ p.Legal ∧ p.mosi = []) ∧
    ∃ (s : State) (p : Snap) (ms : List Bool) (dv : Device), s.snap = some p ∧ s.engine.busy = true ∧ p.Legal ∧
      p.pos = 0 ∧ p.mosi ≠ [] ∧ s.env.miso = ms ++ [] ∧ ms.length = p.mosi.length ∧ p.csMode = .software ∧
      s.lines.cs = some .asserted ∧ s.latch.dev = some 0 ∧ s.devices[0]? = some dv :=
  ⟨⟨reading, _, rfl, by decide, by decide⟩,
    ⟨reading.withLatch { reading.latch with sharedIo := some true }, _, rfl, by decide, rfl, by decide⟩,
    ⟨blank.started (snapOf [] 0 0 false .msbFirst .hardware), _, rfl, empty_snap_legal, rfl⟩,
    (reading.withCs .asserted).withEnv { reading.env with miso := bits [0, 0, 0, 0, 0, 0, 0, 1] }, _, _, _, rfl, rfl,
    reading_snap_legal, rfl, by decide, (List.append_nil _).symm, rfl, rfl, rfl, rfl, rfl⟩

theorem test_witness_ShifterFrame :
    (shifterStep reading).engine.busy = true ∧ reading.devices[1]? = some (Device.reset 1 3) ∧
    reading.latch.dev ≠ some 1 ∧ reading.lines.cs ≠ some .asserted ∧
    ∀ p, reading.snap = some p → p.csMode = .software :=
  ⟨by decide +kernel, rfl, by decide, by decide, by intro p h; cases h; rfl⟩

theorem test_witness_InputBufferKeepsItsRest :
    (∃ (s : State) (p : Snap), s.snap = some p ∧ p.Legal ∧ s.engine.busy = true ∧ ceil8 p.inLen ≤ 1) ∧
    ∃ s t u : State, exec .csAssert s = .next t ∧ execPseudo (.waitNotBusy 5) s = .next u :=
  ⟨⟨reading, _, rfl, reading_snap_legal, rfl, by decide⟩, held, _, _, rfl, rfl⟩

theorem test_witness_HardwareTimedChipSelect :
    (∃ (s : State) (p : Snap), s.snap = some p ∧ p.csMode = .hardware ∧ p.mosi = []) ∧
    (∃ (s : State) (p : Snap) (dv : Device), s.snap = some p ∧ p.csMode = .hardware ∧ p.pos = 0 ∧ 1 < p.mosi.length ∧
      s.latch.dev = some 0 ∧ s.devices[0]? = some dv) ∧
    ∃ (s : State) (p : Snap), s.snap = some p ∧ p.csMode = .software :=
  ⟨⟨blank.started (snapOf [] 0 0 false .msbFirst .hardware), _, rfl, rfl, rfl⟩,
    ⟨blank.started (snapOf [] 0 2 false .msbFirst .hardware), _, _, rfl, rfl, rfl, by decide, rfl, rfl⟩,
    reading, _, rfl, rfl⟩

theorem test_witness_PhysicalLayoutHasTheWireOrder : 16 ≤ 16 ∧ 32 ≤ 32 := by decide

theorem test_witness_BytesKeepTheirOrder :
    outStream (List.replicate 64 (some 5)) true 6 = some [5, 5, 5, 5, 5, 5] ∧ 4 * 1 + 1 < 6 ∧
    outStream (List.replicate 64 (some 5)) false 1 = some [5] ∧
    (List.replicate 64 (0 : Byte)).length ≤ (List.replicate 64 (none : Option Byte)).length ∧
    (List.replicate 64 (none : Option Byte)).length = 64 ∧ (List.replicate 64 (0 : Byte)).length % 4 = 0 ∧
    4 * 15 + 3 < (List.replicate 64 (0 : Byte)).length := by decide +kernel

theorem test_witness_FrameIsOnTheWire :
    held.owns 0 = true ∧ held.engine.busy = false ∧ held.latch.bitOrder = some .msbFirst ∧
    held.latch.csMode = some .software := ⟨by decide, rfl, rfl, rfl⟩

theorem test_witness_TransfersOnTheWire :
    (held.owns 0 = true ∧ held.engine.busy = false ∧ held.latch.bitOrder = some .msbFirst ∧
      held.latch.csMode = some .software) ∧ 1 ≤ 64 ∧ (List.replicate 64 (0 : Byte)).length ≤ 64 ∧
    ∃ s : State, (s.owns 0 = true ∧ s.engine.busy = false ∧ s.latch.bitOrder = some .msbFirst ∧
      s.latch.csMode = some .software) ∧ s.xferInLen = some (8 * ([9] : List Byte).length) ∧
      ∀ j, j < ([9] : List Byte).length → s.engine.inBuf[j]? = some ([9] : List Byte)[j]? :=
  ⟨⟨by decide, rfl, rfl, rfl⟩, by decide, by decide,
    (held.withXfer (some 8)).withEngine { held.engine with inBuf := some 9 :: List.replicate 63 none },
    ⟨by decide, rfl, rfl, rfl⟩, rfl, fun | 0, _ => rfl⟩

theorem test_witness_CommandRowsSendTheirCommand :
    commandOf (.cmd17ReadSingleBlock 7) = some ⟨17, 7, .r1⟩ ∧ commandOf .acmd41SdV1 = some ⟨41, 0, .r1⟩ ∧
    (∃ s x, State.awaits s x .ready) ∧ (held.ctx = none ∧ held.ready) ∧ (setUp.ctx = none ∧ ¬ setUp.ready) ∧
    ∀ pc ph, ∃ s x, State.stands s x pc ph ∧ s.devices[0]? = some (Device.reset 0 2) :=
  ⟨rfl, rfl, ⟨_, _, inside_awaits (ctxAt .rdCommand .ready) rfl⟩, ⟨rfl, held_ready⟩, ⟨rfl, fun h => by cases h.1⟩,
    stands_anywhere⟩

theorem test_witness_FillerByteRow :
    (∃ s x c, State.awaits s x (.pollBusy true) ∧ x.cmd = some c) ∧ (∃ s x, State.awaits s x (.pollBusy false)) ∧
    (∃ s x t0, State.awaits s x .pollToken ∧ x.pollT0 = some t0 ∧ x.limit = some 100) ∧
    (∃ s x, State.awaits s x (.window 1)) ∧
    (∃ s x, State.awaits s x (.window 7) ∧ 7 < 8) ∧ (∃ s x, State.awaits s x (.window 8)) ∧
    ∃ s x, State.awaits s x .dataResponse :=
  ⟨⟨_, _, _, inside_awaits (got (.pollBusy true) 0xFF 0) rfl, rfl⟩,
    ⟨_, _, inside_awaits (got (.pollBusy false) 0xFF 0) rfl⟩,
    ⟨_, _, _, inside_awaits (got .pollToken 0xFF 0) rfl, rfl, rfl⟩, ⟨_, _, inside_awaits (got (.window 1) 0xFF 0) rfl⟩,
    ⟨_, _, inside_awaits (got (.window 7) 0xFF 0) rfl, by decide⟩, ⟨_, _, inside_awaits (got (.window 8) 0xFF 0) rfl⟩,
    _, _, inside_awaits (got .dataResponse 0xFF 0) rfl⟩

theorem test_witness_ResponseRows :
    (∃ s x c, x.cmd = some c ∧ State.awaits s x (.window 8) ∧ c.kind = .r1) ∧
    (∃ s x c, x.cmd = some c ∧ State.awaits s x (.window 8) ∧ c.kind ≠ .r1) ∧
    (∃ s x c, x.cmd = some c ∧ State.awaits s x .extended ∧ c.kind = .r3) ∧
    ∃ s x c, x.cmd = some c ∧ State.awaits s x .extended ∧ c.kind = .r7 :=
  ⟨⟨_, _, _, rfl, inside_awaits { ctxAt .rdCommand (.window 8) with cmd := some ⟨17, 0, .r1⟩ } rfl, rfl⟩,
    ⟨_, _, _, rfl, inside_awaits (got (.window 8) 0 0) rfl, by decide⟩,
    ⟨_, _, _, rfl, inside_awaits (got .extended 0 0) rfl, rfl⟩,
    _, _, _, rfl, inside_awaits { ctxAt .i3SendIfCond .extended with cmd := some ⟨8, 0x1AA, .r7⟩ } rfl, rfl⟩

theorem test_witness_TokenAndDataResponseRows :
    sentToken .dataStartToken = some 0xFE ∧ (∃ s x, State.awaits s x .ready) ∧ (held.ctx = none ∧ held.ready) ∧
    (setUp.ctx = none ∧ ¬ setUp.ready) ∧ (∃ s x, State.stands s x .pseudo .group) ∧ (∃ s x, State.awaits s x .pollToken) ∧
    ∃ s x, State.awaits s x .dataResponse :=
  ⟨rfl, ⟨_, _, inside_awaits (ctxAt .wrToken .ready) rfl⟩, ⟨rfl, held_ready⟩, ⟨rfl, fun h => by cases h.1⟩,
    ⟨_, _, inside_stands (ctxAt .pseudo .group) rfl⟩, ⟨_, _, inside_awaits (ctxAt .rdToken .pollToken) rfl⟩,
    _, _, inside_awaits (ctxAt .wrResponse .dataResponse) rfl⟩

theorem test_witness_WaitsForTheCard :
    (∃ s x t0, State.awaits s x (.pollBusy true) ∧ x.tmp = [0x00] ∧ x.pollT0 = some t0 ∧ x.limit = some 100 ∧
      x.cmd = some ⟨58, 0, .r3⟩) ∧
    (∃ s x t0, State.awaits s x .pollToken ∧ x.tmp = [0xFE] ∧ x.pollT0 = some t0 ∧ x.limit = some 100) ∧
    (∃ s x, State.awaits s x .frame) ∧
    (∃ s x c, State.awaits s x (.window 8) ∧ x.tmp = [0x7F] ∧ 8 ≤ 8 ∧ x.cmd = some c) ∧
    (∃ s x c, State.awaits s x .extended ∧ x.tmp = [0xC0, 0xFF, 0x80, 0x00] ∧ x.r1 = some 0x7F ∧
      (0x7F : Byte).getLsbD 7 = false ∧ x.cmd = some c ∧ c.kind ≠ .r1) ∧
    ∃ s x, State.awaits s x .dataResponse ∧ x.tmp = [0xE5] :=
  ⟨⟨_, _, _, inside_awaits (got (.pollBusy true) 0x00 0) rfl, rfl, rfl, rfl, rfl⟩,
    ⟨_, _, _, inside_awaits (got .pollToken 0xFE 0) rfl, rfl, rfl, rfl⟩,
    ⟨_, _, inside_awaits (ctxAt .rdCommand .frame) rfl⟩,
    ⟨_, _, _, inside_awaits (got (.window 8) 0x7F 0) rfl, rfl, by decide, rfl⟩,
    ⟨_, _, _, inside_awaits { got .extended 0 0 with tmp := [0xC0, 0xFF, 0x80, 0x00], r1 := some 0x7F } rfl, rfl, rfl,
      by decide, rfl, by decide⟩,
    _, _, inside_awaits (got .dataResponse 0xE5 0) rfl, rfl⟩

theorem test_witness_PseudoOperations :
    (64 < 65 ∧ 64 < (List.replicate 65 (0 : Byte)).length) ∧ (setUp.ctx = none ∧ ¬ setUp.ready) ∧
    (held.ctx = none ∧ held.ready ∧ 1 ≤ 64 ∧ (List.replicate 64 (0 : Byte)).length ≤ 64 ∧ 63 < 64) ∧
    (∀ pc ph, ∃ s x, State.stands s x pc ph ∧ s.devices[0]? = some (Device.reset 0 2)) ∧
    ((PseudoOp.xferIn 64).inRange = true ∧ (PseudoOp.acmd 63 0 .r1).inRange = true ∧
      (PseudoOp.acmd 63 0 .r1).isAcmd = true) ∧
    (∃ s x, State.ctx s = some x ∧ x.pc = .pseudo ∧ x.micro = [.execute, .readTmp]) ∧
    ∃ s x, State.ctx s = some x ∧ x.pc = .pseudoAppCmd ∧ x.micro = [] ∧ x.phase = .frame :=
  ⟨by decide, ⟨rfl, fun h => by cases h.1⟩, ⟨rfl, held_ready, by decide⟩, stands_anywhere, by decide,
    ⟨inside { ctxAt .pseudo .group with micro := [.execute, .readTmp] }, _, rfl, rfl, rfl⟩,
    inside (ctxAt .pseudoAppCmd .frame), _, rfl, rfl, rfl, rfl⟩

theorem test_witness_OperationsTakeTheBus :
    sequencerStart (.sdRead 0 0 1 0x100) = some (0, opening 0 .beginOp (some (0x100, 512 * 1))) ∧
    (State.reset.ctx = none ∧ State.reset.lock.ready = false) ∧
    (setUp.ctx = none ∧ setUp.lock.ready = true ∧ setUp.devices[0]? = some (Device.reset 0 2) ∧ setUp.lock.owner = none) ∧
    (sequencerStart (.sdReadCid 2 0) = some (2, opening 2 .beginOp (some (0, 16))) ∧ setUp.devices.length ≤ 2 ∧
      delivered (.sdReadCid 2 0) = some Result.seq) ∧
    ((held.withCur 1).ctx = none ∧ held.lock.owner = some 0 ∧ 0 ≠ (held.withCur 1).cur) ∧
    (reading.ctx = none ∧ reading.lock.owner = some reading.cur ∧ reading.engine.busy = true) ∧
    (contended.ctx = none ∧ contended.lock.owner = some 0 ∧ 0 ≠ contended.cur ∧ contended.engine.busy = true ∧
      (contended.cur, 0) ∉ contended.lock.waiters) ∧
    (∃ s : State, s.ctx = none ∧ s.lock.owner = some 0 ∧ 0 ≠ s.cur ∧ (s.cur, 0) ∈ s.lock.waiters) ∧
    1 < setUp.devices.length ∧
    (∃ s x, State.awaits s x (.done .ok) ∧ x.pc = .beginOp ∧ (Device.reset 0 2).sdUsable = true) ∧
    ∃ (s : State) (x : Ctx) (dv : Device), s.awaits x (.done .ok) ∧ x.pc = .beginOp ∧ s.devices[0]? = some dv ∧
      dv.sdUsable = false :=
  ⟨rfl, ⟨rfl, rfl⟩, ⟨rfl, rfl, rfl, rfl⟩, ⟨rfl, by decide, rfl⟩, ⟨rfl, rfl, by decide⟩, ⟨rfl, rfl, rfl⟩,
    ⟨rfl, rfl, by decide, rfl, by decide⟩,
    ⟨contended.withLock { contended.lock with waiters := [(1, 0)] }, rfl, rfl, by decide, by decide⟩, by decide,
    ⟨_, _, inside_awaits (ctxAt .beginOp (.done .ok)) rfl, rfl, by decide⟩,
    (inside (ctxAt .beginOp (.done .ok))).withDevices [{ Device.reset 0 2 with mode := 3 }], _, _, ⟨rfl, rfl, rfl⟩, rfl,
    rfl, by decide⟩

theorem test_witness_OperationsRunTheirPrimitives :
    sequencerStart (.blockCount 0) = some (0, opening 0 .beginOp none) ∧ held.devices[0]? = some (Device.reset 0 2) ∧
    (∃ s x t, State.ctx s = some x ∧ x.micro = [.csAssert] ∧ engineOp s.cur .csAssert s = .done t none) ∧
    (∃ s x t, State.ctx s = some x ∧ x.micro = [.wait] ∧ engineOp s.cur .wait s = .blocked t) ∧
    (∃ s x, State.ctx s = some x ∧ x.micro = [.execute] ∧ engineOp s.cur .execute s = .refuse .undefField) ∧
    (∃ s x, State.ctx s = some x ∧ x.micro = [] ∧ x.phase = .group) ∧
    (∃ s x, State.ctx s = some x ∧ x.micro = [] ∧ x.phase ≠ .ready ∧ ∀ r, x.phase ≠ .done r) ∧
    ∃ s x t, State.ctx s = some x ∧ x.micro = [.reset, .csAssert] ++ [.release] ∧
      runOps s.cur [.reset, .csAssert] s = some t :=
  ⟨rfl, rfl, ⟨inside { ctxAt .beginCs .group with micro := [.csAssert] }, _, _, rfl, rfl, rfl⟩,
    ⟨reading.withCtx { ctxAt .beginCs .group with micro := [.wait] }, _, _, rfl, rfl, rfl⟩,
    ⟨inside { ctxAt .beginCs .group with micro := [.execute] }, _, rfl, rfl, rfl⟩,
    ⟨inside (ctxAt .beginCs .group), _, rfl, rfl, rfl⟩,
    ⟨inside (ctxAt .rgToken .pollToken), _, rfl, rfl, by decide, fun _ h => by cases h⟩,
    inside { ctxAt .beginCs .group with micro := [.reset, .csAssert, .release] }, _, _, rfl, rfl, rfl⟩

theorem test_witness_OperationsDeliverTheirResult :
    delivered (.upRead 0 0 1 0x100) = some Result.ofIo ∧
    sequencerStart (.upRead 0 0 1 0x100) = some (0, opening 0 .beginOp (some (0x100, 512 * 1))) ∧
    (∃ s x, State.awaits s x (.done .ok) ∧ x.pc = .leaving .timeout ∧ s.devices[0]? = some (Device.reset 0 2)) ∧
    (∃ s x n, State.awaits s x (.done .ok) ∧ x.pc = .leaving .ok ∧ csdCapacity x.image.reverse = some n) ∧
    (∃ s x, State.awaits s x (.done .ok) ∧ x.pc = .leaving .ok ∧ csdCapacity x.image.reverse = none) ∧
    ∃ (s : State) (cl : Client) (x : Ctx), HoldsBus s ∧ s.clients[0]? = some cl ∧ cl.ctx = some x ∧ x.pc = .leaving .ok :=
  ⟨rfl, rfl, ⟨_, _, inside_awaits (ctxAt (.leaving .timeout) (.done .ok)) rfl, rfl, rfl⟩,
    ⟨_, _, 1024#32, inside_awaits { ctxAt (.leaving .ok) (.done .ok) with image := [0x40, 0, 0, 0, 0, 0, 0, 0, 0, 0, 0, 0, 0, 0, 0, 0] } rfl, rfl,
      by decide +kernel⟩,
    ⟨_, _, inside_awaits { ctxAt (.leaving .ok) (.done .ok) with image := List.replicate 16 0 } rfl, rfl, by decide +kernel⟩,
    inside (ctxAt (.leaving .ok) (.done .ok)), _, _, inside_holdsBus _ leaving_legal, rfl, rfl, rfl⟩

theorem test_witness_RejectedCommandsEndInIOError :
    SeqPc.rdStop ∈ commandSteps (.sdRead 0 0 2 0x100) ∧ held.devices[0]? = some (Device.reset 0 2) ∧
    (∃ s x, State.awaits s x (.done (.reply 0x01)) ∧ x.pc = .rdStop ∧ 0x01#8 ≠ 0x00#8) ∧
    ∃ s x, State.awaits s x (.done .timeout) ∧ x.pc = .rdStop :=
  ⟨by decide, rfl, ⟨_, _, inside_awaits (ctxAt .rdStop (.done (.reply 0x01))) rfl, rfl, by decide⟩,
    _, _, inside_awaits (ctxAt .rdStop (.done .timeout)) rfl, rfl⟩

theorem test_witness_ExitsLeaveACleanBus :
    held.owns 0 = true ∧ held.engine.busy = false ∧ held.latch.csMode = some .software := ⟨by decide, rfl, rfl⟩

theorem test_witness_ProbeClassifies :
    initialization (.sdInitialize 0) 0 ∧ initialization (.upInitialize 0) 0 ∧
    (∀ pc ph, ∃ s x, State.stands s x pc ph ∧ s.devices[0]? = some (Device.reset 0 2)) ∧
    ∃ s x, State.stands s x .i3SendIfCond (.done (.reply 0x01)) ∧ x.ext = some 0x1AA :=
  ⟨.inl rfl, .inr rfl, stands_anywhere, _, _,
    inside_stands { ctxAt .i3SendIfCond (.done (.reply 0x01)) with ext := some 0x1AA } rfl, rfl⟩

theorem test_witness_BringUpLoop :
    initialization (.upInitialize 0) 0 ∧
    (∀ pc ph, ∃ s x, State.stands s x pc ph ∧ s.devices[0]? = some (Device.reset 0 2)) ∧
    (∃ s x, State.stands s x .i4SendOpCond .ready ∧ x.cmdIdx = some 41 ∧ x.cmdArg = some 0x40000000) ∧
    (∃ s x, State.stands s x .i4SendOpCond .ready ∧ x.cmdIdx = some 41 ∧ x.cmdArg = some 0) ∧
    ∃ s x t0, State.stands s x .i4Deadline .ready ∧ x.t0 = some t0 :=
  ⟨.inr rfl, stands_anywhere,
    ⟨_, _, inside_stands { ctxAt .i4SendOpCond .ready with cmdIdx := some 41, cmdArg := some 0x40000000 } rfl, rfl, rfl⟩,
    ⟨_, _, inside_stands { ctxAt .i4SendOpCond .ready with cmdIdx := some 41, cmdArg := some 0 } rfl, rfl, rfl⟩,
    _, _, 0, inside_stands { ctxAt .i4Deadline .ready with t0 := some 0 } rfl, rfl⟩

theorem test_witness_InitializationWritesItsOutcome :
    initialization (.upInitialize 0) 0 ∧
    (∀ pc ph, ∃ s x, State.stands s x pc ph ∧ s.devices[0]? = some (Device.reset 0 2)) ∧
    (∃ s x, State.stands s x .i5ReadOcr (.done (.reply 0x00)) ∧ x.ext = some 0xC0FF8000) ∧ 0x01#8 ≠ 0x00#8 ∧
    ∃ s x, State.stands s x .i7Ready .ready ∧ x.cand = some .mmc :=
  ⟨.inr rfl, stands_anywhere,
    ⟨_, _, inside_stands { ctxAt .i5ReadOcr (.done (.reply 0x00)) with ext := some 0xC0FF8000 } rfl, rfl⟩, by decide,
    _, _, inside_stands { ctxAt .i7Ready .ready with cand := some .mmc } rfl, rfl⟩

theorem test_witness_BlockNumbersBecomeAddresses :
    cardAddr true (2 ^ 32 - 1) = some 0xFFFFFFFF ∧ cardAddr true (2 ^ 32) = none ∧
    cardAddr false (2 ^ 23 - 1) = some 0xFFFFFE00 ∧ cardAddr false (2 ^ 23) = none ∧
    addressed (.upWrite 0 (2 ^ 23) 2 0) .mwCommand = some (2 ^ 23, .cmd25WriteMultipleBlock) ∧
    addressed (.sdErase 0 5 (2 ^ 23 - 1)) .erEnd = some (2 ^ 23 - 1, .cmd33EraseWrBlkEnd) ∧
    sequencerStart (.sdErase 0 5 (2 ^ 23 - 1)) = some (0, opening 0 .beginOp none) ∧ (Device.reset 0 2).hc = false ∧
    ∀ pc ph, ∃ s x, State.stands s x pc ph ∧ s.devices[0]? = some (Device.reset 0 2) :=
  ⟨by decide +kernel, by decide +kernel, by decide +kernel, by decide +kernel, rfl, rfl, rfl, rfl, stands_anywhere⟩

theorem test_witness_WritesAnnounceAndAbort :
    writesBlocks (.sdWrite 0 3 2 0x100) 0 3 2 0x100 ∧ writesBlocks (.upWrite 0 3 2 0x100) 0 3 2 0x100 ∧ 0 < 2 ∧
    cardAddr (Device.reset 0 2).hc 3 = some 0x600 ∧
    (∀ pc ph, ∃ s x, State.stands s x pc ph ∧ s.devices[0]? = some (Device.reset 0 2)) ∧
    ∃ s x, State.stands s x .mwBusy (.done .ok) ∧ x.k = some 1 :=
  ⟨.inl rfl, .inr rfl, by decide, by decide +kernel, stands_anywhere, _, _,
    inside_stands { ctxAt .mwBusy (.done .ok) with k := some 1 } rfl, rfl⟩

theorem test_witness_ReadsFillTheBuffer :
    readsBlocks (.sdRead 0 5 2 0x100) 0 5 2 0x100 ∧ readsBlocks (.upRead 0 5 2 0x100) 0 5 2 0x100 ∧ 0 < 2 ∧
    cardAddr (Device.reset 0 2).hc 5 = some 0xA00 ∧
    (∀ pc ph, ∃ s x, State.stands s x pc ph ∧ s.devices[0]? = some (Device.reset 0 2)) ∧
    (∃ s x, State.stands s x .rdData .ready ∧ x.k = some 0) ∧
    (∃ s x, State.stands s x .rdTrailer (.done .ok) ∧ x.k = some 1) ∧
    (∃ s x, State.awaits s x (.streamIn .scratch 0 2) ∧ x.tmp ≠ [] ∧ x.tmp.length ≤ 2) ∧
    (∃ s x, State.awaits s x (.streamIn (.memory 0x100) 0 2) ∧ x.tmp ≠ [] ∧ x.tmp.length ≤ 2 ∧
      ownedByOther s.cur (0x100 + 0) x.tmp.length 0 s.clients = false) ∧
    ∃ s x, State.awaits s x (.streamIn (.memory 0x100) 0 2) ∧ x.tmp ≠ [] ∧ x.tmp.length ≤ 2 ∧
      ownedByOther s.cur (0x100 + 0) x.tmp.length 0 s.clients = true :=
  ⟨.inl rfl, .inr rfl, by decide, by decide +kernel, stands_anywhere,
    ⟨_, _, inside_stands { ctxAt .rdData .ready with k := some 0 } rfl, rfl⟩,
    ⟨_, _, inside_stands { ctxAt .rdTrailer (.done .ok) with k := some 1 } rfl, rfl⟩,
    ⟨_, _, inside_awaits { chunkRead with phase := .streamIn .scratch 0 2 } rfl, by decide, by decide⟩,
    ⟨_, _, inside_awaits chunkRead rfl, by decide, by decide, by decide +kernel⟩,
    claimed (inside chunkRead), chunkRead, ⟨rfl, rfl, rfl⟩, by decide, by decide, by decide +kernel⟩

theorem test_witness_WritesSendTheBuffer :
    writesBlocks (.sdWrite 0 3 1 0x100) 0 3 1 0x100 ∧ 0 < 1 ∧
    (∀ pc ph, ∃ s x, State.stands s x pc ph ∧ s.devices[0]? = some (Device.reset 0 2)) ∧
    (∃ s x, State.stands s x .wrData .ready ∧ x.k = none ∧ s.readBuffer 0x100 64 = some (List.replicate 64 0)) ∧
    (∃ s x, State.stands s x .wrData .ready ∧ ownedByOther s.cur 0x100 64 0 s.clients = true) ∧
    (∃ s x, State.stands s x .mwData .ready ∧ x.k = some 1 ∧
      s.readBuffer (0x100 + 512 * 1) 64 = some (List.replicate 64 0)) ∧
    (∃ s x, State.stands s x .mwData .ready ∧ x.k = some 0 ∧ ownedByOther s.cur (0x100 + 512 * 0) 64 0 s.clients = true) ∧
    (∃ s x, State.awaits s x (.streamOut 0x100 512 0)) ∧
    (∃ s x, State.awaits s x (.streamOut 0x100 510 2) ∧ 0 < 2 ∧ s.readBuffer (0x100 + 510) (min 64 2) = some [0, 0]) ∧
    ∃ s x, State.awaits s x (.streamOut 0x100 510 2) ∧ 0 < 2 ∧
      ownedByOther s.cur (0x100 + 510) (min 64 2) 0 s.clients = true :=
  ⟨.inl rfl, by decide, stands_anywhere,
    ⟨_, _, inside_stands (ctxAt .wrData .ready) rfl, rfl, by decide +kernel⟩,
    ⟨claimed (inside (ctxAt .wrData .ready)), ctxAt .wrData .ready, ⟨⟨rfl, rfl, rfl⟩, rfl⟩, by decide +kernel⟩,
    ⟨_, _, inside_stands { ctxAt .mwData .ready with k := some 1 } rfl, rfl, by decide +kernel⟩,
    ⟨claimed (inside { ctxAt .mwData .ready with k := some 0 }), { ctxAt .mwData .ready with k := some 0 },
      ⟨⟨rfl, rfl, rfl⟩, rfl⟩, rfl, by decide +kernel⟩,
    ⟨_, _, inside_awaits (ctxAt .wrData (.streamOut 0x100 512 0)) rfl⟩,
    ⟨_, _, inside_awaits (ctxAt .wrData (.streamOut 0x100 510 2)) rfl, by decide, by decide +kernel⟩,
    claimed (inside (ctxAt .wrData (.streamOut 0x100 510 2))), ctxAt .wrData (.streamOut 0x100 510 2), ⟨rfl, rfl, rfl⟩,
    by decide, by decide +kernel⟩

theorem test_witness_EraseSequence :
    cardAddr (Device.reset 0 2).hc 10 = some 0x1400 ∧
    ∀ pc ph, ∃ s x, State.stands s x pc ph ∧ s.devices[0]? = some (Device.reset 0 2) :=
  ⟨by decide +kernel, stands_anywhere⟩

theorem test_witness_RegisterImages :
    registerRead (.sdReadCid 0 0x100) 0 0x100 ∧ registerRead (.blockCount 0) 0 0x100 ∧
    (∀ pc ph, ∃ s x, State.stands s x pc ph ∧ s.devices[0]? = some (Device.reset 0 2)) ∧
    (∃ s x, State.stands s x .rgStore .ready ∧ Instr.sdReadCid 0 0x100 ≠ .blockCount 0 ∧
      ownedByOther s.cur 0x100 x.image.length 0 s.clients = true) ∧
    (∃ s x t, State.ctx s = some x ∧ x.pc ≠ .rgStore ∧ (∀ b o l, x.phase ≠ .streamIn (.memory b) o l) ∧
      exec (.sdReadCid 0 0x100) s = .next t) ∧
    (∃ s x, State.awaits s x (.streamIn .image 0 16) ∧ x.tmp.length = 16) ∧
    ∃ s x, State.stands s x .rgStore .ready ∧ x.image.length = 16 ∧ Memory.wf s.mem = true ∧
      ownedByOther s.cur 0x100 16 0 s.clients = false :=
  ⟨.inl rfl, .inr (.inr rfl), stands_anywhere,
    ⟨claimed (inside { ctxAt .rgStore .ready with image := List.replicate 16 3 }),
      { ctxAt .rgStore .ready with image := List.replicate 16 3 }, ⟨⟨rfl, rfl, rfl⟩, rfl⟩, by decide, by decide +kernel⟩,
    ⟨inside (ctxAt .rgData (.done .ok)), _, _, rfl, by decide, (fun _ _ _ h => by cases h), rfl⟩,
    ⟨_, _, inside_awaits { ctxAt .rgData (.streamIn .image 0 16) with tmp := List.replicate 16 3 } rfl, rfl⟩,
    _, _, inside_stands { ctxAt .rgStore .ready with image := List.replicate 16 3 } rfl, rfl, rfl, by decide +kernel⟩

/-- A register buffer that is zero but for this byte. -/
def oneByte (i : Nat) (b : Byte) : List Byte := (List.replicate 16 0).set i b

theorem test_witness_RegisterDecoding :
    (oneByte 0 3).length = 16 ∧
    (let F (buf : List Byte) (hi lo : Nat) : Nat := ofBytesLE buf / 2 ^ lo % 2 ^ (hi + 1 - lo)
     F (oneByte 10 9) 127 126 = 0 ∧ F (oneByte 15 0x40) 127 126 = 1 ∧ 1 < F (oneByte 15 0x80) 127 126) ∧
    (csdVersion (csdOf (oneByte 10 9)) = 0 ∧ 9 ≤ csdField (csdOf (oneByte 10 9)) 83 80) ∧
    (csdVersion (csdOf (oneByte 10 8)) = 0 ∧ csdField (csdOf (oneByte 10 8)) 83 80 < 9) ∧
    (csdVersion (csdOf (oneByte 15 0x40)) = 1 ∧ csdField (csdOf (oneByte 15 0x40)) 69 48 ≠ 0x3FFFFF) ∧
    (let full : List Byte := [0, 0, 0, 0, 0, 0, 0xFF, 0xFF, 0x3F, 0, 0, 0, 0, 0, 0, 0x40]
     csdVersion (csdOf full) = 1 ∧ csdField (csdOf full) 69 48 = 0x3FFFFF) ∧
    1 < csdVersion (csdOf (oneByte 15 0x80)) := by decide +kernel

theorem test_witness_BlockDeviceAnswers :
    setUp.lock.ready = true ∧
    (∃ dv, (setUp.withSession 0 (.ready .mmc)).devices[0]? = some dv ∧ dv.session = .ready .mmc) ∧
    (∃ dv, setUp.devices[1]? = some dv ∧ ∀ card, dv.session ≠ .ready card) ∧ setUp.devices.length ≤ 2 ∧
    State.reset.lock.ready = false ∧ State.reset.devices.length ≤ 2 :=
  ⟨rfl, ⟨_, rfl, rfl⟩, ⟨_, rfl, fun _ h => by cases h⟩, by decide, rfl, by decide⟩

end Sys2Proof.Tests
end

/-! PROOFS. The frame of caller memory, and what wait and read_result do (O18, O30). -/

namespace Sys2Proof.Machine

open Sys2Proof

/-! ### What leaves caller memory as it was -/

/-- A step that stores nothing has no effect on caller memory. -/
theorem Effect.mem_eq {init : Bool} {s t : State} (h : Effect init false s t) : t.mem = s.mem := by
  cases h with
  | quiet h => exact h.mem
  | engine op u b run h => exact h.mem.trans (engineOp_done_outside run).mem
  | blocked op u run h => exact h.mem.trans (engineOp_blocked_outside run).mem
  | lock u b run h =>
    obtain ⟨-, rfl, -⟩ := busInitOp_done.1 run
    exact h.mem
  | store allowed => cases allowed
  | session _ d se h => exact h.mem
  | flag _ d h => exact h.mem
  | clear _ d h => exact h.mem

theorem Effect.byteAt_eq {init : Bool} {s t : State} (h : Effect init false s t) (a : Nat) :
    t.byteAt a = s.byteAt a := congrArg (Memory.read · a) h.mem_eq

/-- An outcome whose next state, if it is one, has the same byte at `a` as `s`. -/
def KeepsByte (a : Nat) (s : State) (o : Outcome) : Prop := AllNext (fun t => t.byteAt a = s.byteAt a) o

theorem keepsByte_of_effect {s : State} {o : Outcome} (a : Nat)
    (h : AllNext (Effect false false s) o) : KeepsByte a s o := fun t ht => (h t ht).byteAt_eq a

/-! ### What stores to caller memory -/

/-- A store to a buffer leaves every byte outside it as it was. -/
theorem State.writeBuffer_byteAt_outside {s u : State} {base a : Nat} {bs : List Byte}
    (hwf : Memory.wf s.mem = true) (h : s.writeBuffer base bs = some u)
    (ha : a < base ∨ base + bs.length ≤ a) : u.byteAt a = s.byteAt a := by
  rw [State.writeBuffer_some h]
  exact Memory.read_writeBytes_outside hwf base bs a ha

theorem State.writeBuffer_of_free {s : State} {base : Nat} {bs : List Byte}
    (h : ownedByOther s.cur base bs.length 0 s.clients = false) :
    s.writeBuffer base bs = some (s.withMem (Memory.writeBytes s.mem base bs)) := by
  simp [State.writeBuffer, h]

/-- A chunk that goes to caller memory leaves every byte outside its place as it was (R255). -/
theorem keepsByte_chunkIn {s : State} {x : Ctx} {base off left a : Nat} (hwf : Memory.wf s.mem = true)
    (ha : a < base + off ∨ base + off + x.tmp.length ≤ a) :
    KeepsByte a s (chunkIn s x (.memory base) off left) := by
  unfold KeepsByte chunkIn
  simp only [storeAt]
  cases hw : s.writeBuffer (base + off) x.tmp with
  | none => exact allNext_refused
  | some u =>
    have hu : u.byteAt a = s.byteAt a := State.writeBuffer_byteAt_outside hwf hw ha
    exact allNext_goOn.2 hu

/-- The store of a register leaves every byte outside the buffer as it was (R370, R371). -/
theorem keepsByte_storeRegister {s : State} {x : Ctx} {buf a : Nat} {bs : List Byte}
    (hwf : Memory.wf s.mem = true) (ha : a < buf ∨ buf + bs.length ≤ a) :
    KeepsByte a s (storeRegister buf s x bs) := by
  unfold KeepsByte storeRegister
  cases hw : s.writeBuffer buf bs with
  | none => exact allNext_refused
  | some u =>
    have hu : u.byteAt a = s.byteAt a := State.writeBuffer_byteAt_outside hwf hw ha
    exact allNext_goOn.2 hu

/-- `read_result` leaves every byte outside the `ceil8(XFER_IN_LEN)` bytes of its buffer as it was (R218). -/
theorem keepsByte_execReadResult {s : State} {buf n a : Nat} (hwf : Memory.wf s.mem = true)
    (hn : s.xferInLen = some n) (ha : a < buf ∨ buf + ceil8 n ≤ a) :
    KeepsByte a s (execReadResult buf s) := by
  unfold execReadResult
  cases hr : readResultOp s.cur s with
  | refuse r => exact allNext_refused
  | blocked u =>
    obtain ⟨-, -, rfl, -⟩ := readResultOp_blocked.1 hr
    exact allNext_next.2 rfl
  | done u b =>
    obtain ⟨-, -, rfl, m, bs, hm, hbs, rfl⟩ := readResultOp_done.1 hr
    obtain rfl : m = n := Option.some.inj (hm.symm.trans hn)
    have hlen : bs.length ≤ ceil8 m := by
      have h := congrArg List.length (allDefined_iff.1 hbs)
      simp only [List.length_take, List.length_map] at h
      omega
    simp only [Option.getD_some]
    cases hw : u.writeBuffer buf bs with
    | none => exact allNext_refused
    | some w =>
      have hout : a < buf ∨ buf + bs.length ≤ a := by omega
      have hw' : w.byteAt a = u.byteAt a := State.writeBuffer_byteAt_outside hwf hw hout
      exact allNext_next.2 hw'

/-! ### One step of an operation -/

theorem Ctx.not_storing_of_ready {x : Ctx} (h : x.phase = .ready) : ¬ x.storing := by
  rintro ⟨base, off, left, hp⟩
  simp [h] at hp

theorem Ctx.not_storing_of_done {x : Ctx} {p : PrimResult} (h : x.phase = .done p) : ¬ x.storing := by
  rintro ⟨base, off, left, hp⟩
  simp [h] at hp

/-- A step of an operation is one engine operation, a step of its program, which comes where no stream is under way,
or a step of the primitive under way; the program and the primitive are reached only after the first step. -/
theorem keepsByte_operation {start : Ctx} {prog : Program} {s : State} {a : Nat} (hstart : start.micro ≠ [])
    (hprog : ∀ x r, s.ctx = some x → ¬ x.storing → KeepsByte a s (prog s x r))
    (hprim : ∀ x, s.ctx = some x → x.micro = [] → KeepsByte a s (primitiveStep s x)) :
    KeepsByte a s (operation start prog s) := by
  have hmicro (x : Ctx) (op : EngineOp) (rest : List EngineOp) : KeepsByte a s (runMicro s x op rest) :=
    keepsByte_of_effect a (effect_runMicro s x op rest)
  unfold operation
  split
  · unfold runProgram
    split
    · exact hmicro _ _ _
    · next h => exact absurd h hstart
  · next x hx =>
    unfold runProgram
    split
    · exact hmicro _ _ _
    · next hm =>
      split
      · next hp => exact hprog x _ hx (Ctx.not_storing_of_ready hp)
      · next hp => exact hprog x _ hx (Ctx.not_storing_of_done hp)
      · exact hprim x hx hm

theorem opening_micro_ne_nil (dev : Nat) (pc : SeqPc) (cl : Option (Nat × Nat)) :
    (opening dev pc cl).micro ≠ [] := List.cons_ne_nil _ _

/-! ### Block reads -/

set_option maxRecDepth 8000 in
/-- The program of a block read itself stores nothing: its stream does (R255, R332). -/
theorem effect_readProgram {init st : Bool} (d first count buf : Nat) (deliver : Res → Result) (s : State) (x : Ctx)
    (r : Option PrimResult) (h : st = true ∨ ∀ x, s.ctx = some x → ¬ x.storing) :
    AllNext (Effect init st s) (readProgram d first count buf deliver s x r) := by
  unfold readProgram
  split
  · exact effect_beginAcquired _ _ _
  · exact effect_goOn _ _
  · exact effect_withAddr _ _ _ _ fun a =>
      allNext_ite (effect_execCmd17ReadSingleBlock a s h) (effect_execCmd18ReadMultipleBlock a s h)
  · exact effect_afterCommand _ _ _ _
  · exact effect_endWith _ _ _
  · exact effect_startPollToken _ _ _
  · exact effect_goOn _ _
  · exact effect_endWith _ _ _
  · exact effect_endWith _ _ _
  · exact effect_withBlock _ _ _ fun k => effect_startStreamIn _ _ _ _
  · exact effect_goOn _ _
  · exact effect_startStreamIn _ _ _ _
  · exact effect_withBlock _ _ _ fun k =>
      allNext_ite (effect_goOn _ _) (allNext_ite (effect_goOn _ _) (effect_endWith _ _ _))
  · exact effect_execCmd12StopTransmission _ h
  · exact effect_endWith _ _ _
  · exact effect_endWith _ _ _
  · exact effect_complete _ _
  · exact allNext_refused

/-- A step of a block read leaves every byte outside the chunk it has just read as it was (R255). -/
theorem keepsByte_readOperation {d first count buf a : Nat} {deliver : Res → Result} {s : State}
    (hwf : Memory.wf s.mem = true)
    (ha : ∀ x base off left, s.ctx = some x → x.micro = [] → x.phase = .streamIn (.memory base) off left →
      a < base + off ∨ base + off + x.tmp.length ≤ a) :
    KeepsByte a s (readOperation d first count buf deliver s) := by
  refine allNext_ite allNext_refused (keepsByte_operation (opening_micro_ne_nil _ _ _) ?program ?primitive)
  case program =>
    intro x r hx hst
    refine keepsByte_of_effect a (effect_readProgram _ _ _ _ _ _ _ _ (.inr ?_))
    intro y hy
    exact Option.some.inj (hx.symm.trans hy) ▸ hst
  case primitive =>
    intro x hx hm
    by_cases hst : x.storing
    · obtain ⟨base, off, left, hp⟩ := hst
      simp only [primitiveStep, hp]
      exact keepsByte_chunkIn hwf (ha x base off left hx hm hp)
    · exact keepsByte_of_effect a (effect_primitiveStep s x (.inr hst))

/-! ### Register reads -/

/-- Only the step `rgStore` of a register read asks what is done with the register's bytes. -/
theorem registerProgram_store_congr {d : Nat} {rev : Bool} {store store' : State → Ctx → List Byte → Outcome}
    {deliver : State → Ctx → Res → Outcome} {s : State} {x : Ctx} {r : Option PrimResult} (h : x.pc ≠ .rgStore) :
    registerProgram d rev store deliver s x r = registerProgram d rev store' deliver s x r := by
  unfold registerProgram
  split <;> simp_all

/-- The step `rgStore` of a register read stores the register's image. -/
theorem registerProgram_rgStore {d : Nat} {rev : Bool} {store : State → Ctx → List Byte → Outcome}
    {deliver : State → Ctx → Res → Outcome} {s : State} {x : Ctx} (h : x.pc = .rgStore) :
    registerProgram d rev store deliver s x none = store s x (registerImage rev x.image) := by
  simp only [registerProgram, h]

theorem registerProgram_rgStore_some {d : Nat} {rev : Bool} {store : State → Ctx → List Byte → Outcome}
    {deliver : State → Ctx → Res → Outcome} {s : State} {x : Ctx} {p : PrimResult} (h : x.pc = .rgStore) :
    registerProgram d rev store deliver s x (some p) = .refused .outOfPhase := by
  simp only [registerProgram, h]

@[simp] theorem registerImage_length (rev : Bool) (w : List Byte) : (registerImage rev w).length = w.length := by
  cases rev <;> simp [registerImage]

/-- A step of a register read leaves every byte outside the image it stores as it was (R370, R371). -/
theorem keepsByte_registerOperation {d buf a : Nat} {rev : Bool} {cl : Option (Nat × Nat)} {s : State}
    (hwf : Memory.wf s.mem = true) (hst : ∀ x, s.ctx = some x → ¬ x.storing)
    (ha : ∀ x, s.ctx = some x → x.pc = .rgStore → a < buf ∨ buf + x.image.length ≤ a) :
    KeepsByte a s (operation (opening d .beginOp cl)
      (registerProgram d rev (storeRegister buf) deliverRegister) s) := by
  refine keepsByte_operation (opening_micro_ne_nil _ _ _) ?program ?primitive
  case program =>
    intro x r hx _
    by_cases hpc : x.pc = .rgStore
    · cases r with
      | none =>
        rw [registerProgram_rgStore hpc]
        exact keepsByte_storeRegister hwf (by simpa using ha x hx hpc)
      | some p =>
        rw [registerProgram_rgStore_some hpc]
        exact allNext_refused
    · rw [registerProgram_store_congr (store' := keepRegister) hpc]
      exact keepsByte_of_effect a (effect_registerProgram _ _ _ _ _ _ _ (.inr hst)
        (fun _ => effect_endWith _ _ _) fun _ => effect_complete _ _)
  case primitive =>
    intro x hx _
    exact keepsByte_of_effect a (effect_primitiveStep s x (.inr (hst x hx)))

/-! ### The frame of caller memory -/

/-- Settles O18: a step that stores nothing is an `Effect` without its store, and each of those that store writes one
stretch, outside which every byte reads as before. -/
theorem memoryFrame : Obligations.MemoryFrame := by
  unfold Obligations.MemoryFrame
  refine ⟨?other, ?readResult, ?read, ?register, ?pseudo⟩
  case other =>
    intro i s t hs hst ht a
    exact (exec_effect i s t false (by simp [hs]) (.inr hst) ht).byteAt_eq a
  case readResult =>
    intro buf s t hwf ht a n hn ha
    exact keepsByte_execReadResult hwf hn ha t ht
  case read =>
    rintro d first count buf s t i (rfl | rfl) hwf ht a ha
    · exact keepsByte_readOperation hwf ha t ht
    · exact allNext_ite (keepsByte_readOperation hwf ha)
        (keepsByte_of_effect a (effect_answer _ _)) t ht
  case register =>
    rintro d buf s t i (rfl | rfl) hwf hst ht a ha
    · exact keepsByte_registerOperation hwf hst ha t ht
    · exact keepsByte_registerOperation hwf hst ha t ht
  case pseudo =>
    intro op s t hb ht a
    exact (execPseudo_effect op s t false (.inr hb.pseudoStoresNothing) ht).byteAt_eq a

/-! ### wait and read_result -/

theorem exec_wait_idle {s : State} (ho : s.owns s.cur = true) (hb : s.engine.busy = false) :
    exec .wait s = .next (s.complete .done) :=
  congrArg Flow.request (waitOp_done.2 ⟨ho, hb, rfl, rfl⟩)

theorem exec_wait_busy {s : State} (ho : s.owns s.cur = true) (hb : s.engine.busy = true) :
    exec .wait s = .next s :=
  congrArg Flow.request (waitOp_blocked.2 ⟨ho, hb, rfl⟩)

/-- `read_result` once its bytes are there: they go to the buffer, if no other client's operation owns it. -/
theorem exec_readResult_of_done {s u : State} {buf : Nat} {bs : List Byte}
    (hr : readResultOp s.cur s = .done s (some bs)) (hw : s.writeBuffer buf bs = some u) :
    exec (.readResult buf) s = .next (u.complete .done) := by
  change execReadResult buf s = _
  simp [execReadResult, hr, hw]

theorem exec_readResult_busy {s : State} {buf n : Nat} (ho : s.owns s.cur = true) (hb : s.engine.busy = true)
    (hn : s.xferInLen = some n) : exec (.readResult buf) s = .next s := by
  change execReadResult buf s = _
  simp [execReadResult, readResultOp_blocked.2 ⟨ho, hb, rfl, n, hn⟩, Flow.request]

theorem exec_readResult_noTransfer {s : State} {buf : Nat} (ho : s.owns s.cur = true)
    (hn : s.xferInLen = none) : exec (.readResult buf) s = .refused .noTransfer := by
  change execReadResult buf s = _
  simp [execReadResult, readResultOp, owned_of_owns ho, hn, Flow.request]

/-- Bytes that stand at every place of the front of a buffer are what is read there. -/
theorem allDefined_take {buf : List (Option Byte)} {bs : List Byte} {n : Nat} (hlen : bs.length = n)
    (h : ∀ j, j < n → ∃ b, buf[j]? = some (some b) ∧ bs[j]? = some b) :
    allDefined (buf.take n) = some bs := by
  refine allDefined_iff.2 (List.ext_getElem? fun j => ?_)
  by_cases hj : j < n
  · obtain ⟨b, hbuf, hbs⟩ := h j hj
    simp [hj, hbuf, hbs]
  · have hj' : bs.length ≤ j := by omega
    simp [hj, hj']

/-- Settles O30: the cases of `wait` and `read_result` on BUSY and `XFER_IN_LEN`; the copy is one store of the bytes. -/
theorem waitAndReadResult : Obligations.WaitAndReadResult := by
  unfold Obligations.WaitAndReadResult
  refine ⟨fun s ho => ⟨exec_wait_idle ho, exec_wait_busy ho⟩, fun s buf ho hwf =>
    ⟨?copy, fun n hb hn => exec_readResult_busy ho hb hn, exec_readResult_noTransfer ho⟩⟩
  case copy =>
    intro n bs hb hn hbytes hlen hfree
    have hr : readResultOp s.cur s = .done s (some bs) :=
      readResultOp_done.2 ⟨ho, hb, rfl, n, bs, hn, allDefined_take hlen hbytes, rfl⟩
    refine ⟨Memory.writeBytes s.mem buf bs,
      exec_readResult_of_done hr (State.writeBuffer_of_free (hlen ▸ hfree)), ?inside, ?outside⟩
    case inside =>
      intro j b hj
      obtain ⟨hjlt, rfl⟩ := List.getElem?_eq_some_iff.1 hj
      exact Memory.read_writeBytes_inside hwf buf bs j hjlt
    case outside =>
      intro a ha
      exact Memory.read_writeBytes_outside hwf buf bs a (hlen ▸ ha)

end Sys2Proof.Machine

/-! PROOFS. What a step changes and what it leaves as it was: the shifter, the steps of a client, and the invariant of
the machine. -/

namespace Sys2Proof.Machine

open Sys2Proof

/-! ### One clock event and the end of a transaction -/

section

variable (s : State) (p : Snap) (b : Bool)

/-- A MOSI bit goes into the record of one device and changes nothing else. -/
theorem State.sendBit_eq : s.sendBit b = s.withDevices (s.sendBit b).devices := by
  unfold State.sendBit
  split
  · split <;> rfl
  · rfl

@[simp] theorem State.sendBit_cfg : (s.sendBit b).cfg = s.cfg := by rw [s.sendBit_eq b]; rfl
@[simp] theorem State.sendBit_lock : (s.sendBit b).lock = s.lock := by rw [s.sendBit_eq b]; rfl
@[simp] theorem State.sendBit_engine : (s.sendBit b).engine = s.engine := by rw [s.sendBit_eq b]; rfl
@[simp] theorem State.sendBit_xferInLen : (s.sendBit b).xferInLen = s.xferInLen := by rw [s.sendBit_eq b]; rfl
@[simp] theorem State.sendBit_snap : (s.sendBit b).snap = s.snap := by rw [s.sendBit_eq b]; rfl
@[simp] theorem State.sendBit_latch : (s.sendBit b).latch = s.latch := by rw [s.sendBit_eq b]; rfl
@[simp] theorem State.sendBit_lines : (s.sendBit b).lines = s.lines := by rw [s.sendBit_eq b]; rfl
@[simp] theorem State.sendBit_clients : (s.sendBit b).clients = s.clients := by rw [s.sendBit_eq b]; rfl
@[simp] theorem State.sendBit_mem : (s.sendBit b).mem = s.mem := by rw [s.sendBit_eq b]; rfl
@[simp] theorem State.sendBit_time : (s.sendBit b).time = s.time := by rw [s.sendBit_eq b]; rfl
@[simp] theorem State.sendBit_env : (s.sendBit b).env = s.env := by rw [s.sendBit_eq b]; rfl
@[simp] theorem State.sendBit_cur : (s.sendBit b).cur = s.cur := by rw [s.sendBit_eq b]; rfl

/-- The bit goes to the device that is selected, and to no other (R33, R467). -/
theorem State.sendBit_device {d : Nat} {dv : Device} (hd : s.devices[d]? = some dv) :
    (s.sendBit b).devices[d]? =
      some { dv with wire := if s.selected d then dv.wire ++ [b] else dv.wire } := by
  unfold State.sendBit State.selected
  cases hl : s.latch.dev with
  | none => simp [hd]
  | some d' =>
    by_cases hcs : s.lines.cs = some .asserted
    · by_cases hdd : d = d'
      · simp [hcs, hdd, changeAt_same, hdd ▸ hd]
      · simp [hcs, changeAt_other _ _ hdd, hd, Ne.symm hdd]
    · simp [hcs, hd]

theorem State.sendBit_devices_of_not_asserted (h : s.lines.cs ≠ some .asserted) :
    (s.sendBit b).devices = s.devices := by
  unfold State.sendBit
  split
  · simp [h]
  · rfl

/-- Chip-select before an event: only the line can change. -/
theorem State.csBefore_eq : s.csBefore p = s.withLines { s.lines with cs := (s.csBefore p).lines.cs } := by
  unfold State.csBefore
  split <;> rfl

theorem State.csAfter_eq : s.csAfter p = s.withLines { s.lines with cs := (s.csAfter p).lines.cs } := by
  unfold State.csAfter
  split <;> rfl

@[simp] theorem State.csBefore_cs : (s.csBefore p).lines.cs =
    if p.csMode = .hardware ∧ p.pos = 0 then some .asserted else s.lines.cs := by
  unfold State.csBefore
  split <;> rfl

@[simp] theorem State.csAfter_cs : (s.csAfter p).lines.cs =
    if p.csMode = .hardware ∧ p.mosi ≠ [] then some .deasserted else s.lines.cs := by
  unfold State.csAfter
  split <;> rfl

/-- A MISO bit is drawn from the environment's answers alone. -/
theorem State.drawBit_with (ds : List Device) (l : Lines) : State.drawBit { s with devices := ds, lines := l } =
    (s.drawBit.1, { s with devices := ds, lines := l, env := s.drawBit.2.env }) := by
  unfold State.drawBit
  dsimp only
  cases s.env.miso <;> rfl

/-- One clock event writes the snapshot, the lines, the record of the selected device and the environment's answers. -/
theorem clockEvent_eq : clockEvent s p =
    { s with
      snap := some (p.sampled s.drawBit.1)
      env := s.drawBit.2.env
      devices := ((s.csBefore p).sendBit ((p.mosi[p.pos]?).getD true)).devices
      lines :=
        { s.lines with
          cs := (s.csBefore p).lines.cs
          mosi := drivenBit s.latch.sharedIo p ((p.mosi[p.pos]?).getD true)
          sclk := s.lines.sclk + 1 } } := by
  have hsent : (s.csBefore p).sendBit ((p.mosi[p.pos]?).getD true) =
      { s with
        devices := ((s.csBefore p).sendBit ((p.mosi[p.pos]?).getD true)).devices
        lines := { s.lines with cs := (s.csBefore p).lines.cs } } := by
    refine ((s.csBefore p).sendBit_eq _).trans ?_
    generalize ((s.csBefore p).sendBit ((p.mosi[p.pos]?).getD true)).devices = ds
    rw [State.csBefore_eq]
    rfl
  unfold clockEvent
  dsimp only
  generalize ((s.csBefore p).sendBit ((p.mosi[p.pos]?).getD true)).devices = ds at hsent
  rw [hsent]
  dsimp only [State.withLines, State.withSnap]
  rw [State.drawBit_with]

@[simp] theorem clockEvent_cfg : (clockEvent s p).cfg = s.cfg := by rw [clockEvent_eq]
@[simp] theorem clockEvent_lock : (clockEvent s p).lock = s.lock := by rw [clockEvent_eq]
@[simp] theorem clockEvent_engine : (clockEvent s p).engine = s.engine := by rw [clockEvent_eq]
@[simp] theorem clockEvent_xferInLen : (clockEvent s p).xferInLen = s.xferInLen := by rw [clockEvent_eq]
@[simp] theorem clockEvent_snap : (clockEvent s p).snap = some (p.sampled s.drawBit.1) := by rw [clockEvent_eq]
@[simp] theorem clockEvent_latch : (clockEvent s p).latch = s.latch := by rw [clockEvent_eq]
@[simp] theorem clockEvent_demux : (clockEvent s p).lines.demux = s.lines.demux := by rw [clockEvent_eq]
@[simp] theorem clockEvent_clients : (clockEvent s p).clients = s.clients := by rw [clockEvent_eq]
@[simp] theorem clockEvent_mem : (clockEvent s p).mem = s.mem := by rw [clockEvent_eq]
@[simp] theorem clockEvent_time : (clockEvent s p).time = s.time := by rw [clockEvent_eq]
@[simp] theorem clockEvent_cur : (clockEvent s p).cur = s.cur := by rw [clockEvent_eq]
@[simp] theorem clockEvent_cs : (clockEvent s p).lines.cs =
    if p.csMode = .hardware ∧ p.pos = 0 then some .asserted else s.lines.cs := by
  rw [clockEvent_eq]
  exact State.csBefore_cs s p

/-- The end of a transaction writes the snapshot, chip-select, IN_BUF, BUSY and the environment's answers. -/
theorem finishTransfer_eq : finishTransfer s p =
    { s with
      snap := none
      env := { s.env with draws := s.env.draws + padCount p.inLen }
      lines := { s.lines with cs := (s.csAfter p).lines.cs }
      engine :=
        { s.engine with
          inBuf := storeStream p.inBe 0 (inStream p.bitOrder p.samples p.inLen s.env.draws) s.engine.inBuf
          busy := false } } := by
  unfold finishTransfer
  rw [State.csAfter_eq, State.csAfter_cs, State.csAfter_cs]
  rfl

@[simp] theorem finishTransfer_cfg : (finishTransfer s p).cfg = s.cfg := by rw [finishTransfer_eq]
@[simp] theorem finishTransfer_lock : (finishTransfer s p).lock = s.lock := by rw [finishTransfer_eq]
@[simp] theorem finishTransfer_busy : (finishTransfer s p).engine.busy = false := by rw [finishTransfer_eq]
@[simp] theorem finishTransfer_xferInLen : (finishTransfer s p).xferInLen = s.xferInLen := by rw [finishTransfer_eq]
@[simp] theorem finishTransfer_snap : (finishTransfer s p).snap = none := by rw [finishTransfer_eq]
@[simp] theorem finishTransfer_latch : (finishTransfer s p).latch = s.latch := by rw [finishTransfer_eq]
@[simp] theorem finishTransfer_demux : (finishTransfer s p).lines.demux = s.lines.demux := by rw [finishTransfer_eq]
@[simp] theorem finishTransfer_devices : (finishTransfer s p).devices = s.devices := by rw [finishTransfer_eq]
@[simp] theorem finishTransfer_clients : (finishTransfer s p).clients = s.clients := by rw [finishTransfer_eq]
@[simp] theorem finishTransfer_mem : (finishTransfer s p).mem = s.mem := by rw [finishTransfer_eq]
@[simp] theorem finishTransfer_time : (finishTransfer s p).time = s.time := by rw [finishTransfer_eq]
@[simp] theorem finishTransfer_cur : (finishTransfer s p).cur = s.cur := by rw [finishTransfer_eq]
@[simp] theorem finishTransfer_cs : (finishTransfer s p).lines.cs =
    if p.csMode = .hardware ∧ p.mosi ≠ [] then some .deasserted else s.lines.cs := by
  rw [finishTransfer_eq]
  exact State.csAfter_cs s p
@[simp] theorem finishTransfer_inBuf : (finishTransfer s p).engine.inBuf =
    storeStream p.inBe 0 (inStream p.bitOrder p.samples p.inLen s.env.draws) s.engine.inBuf := by
  rw [finishTransfer_eq]

/-- A device is sent the bit of an event while it is selected, with chip-select as it is before the event (R220,
R221). -/
theorem clockEvent_device {d : Nat} {dv : Device} (hd : s.devices[d]? = some dv) :
    (clockEvent s p).devices[d]? = some { dv with
      wire := if (s.csBefore p).selected d then dv.wire ++ [(p.mosi[p.pos]?).getD true] else dv.wire } := by
  rw [clockEvent_eq]
  refine State.sendBit_device _ _ ?_
  rw [State.csBefore_eq]
  exact hd

@[simp] theorem clockEvent_devices_length : (clockEvent s p).devices.length = s.devices.length := by
  rw [clockEvent_eq]
  rw [State.csBefore_eq]
  unfold State.sendBit
  split
  · split <;> simp
  · rfl

end

/-! ### The three kinds of shifter step -/

theorem shifterStep_idle {s : State} (hs : s.snap = none) : shifterStep s = s := by
  simp [shifterStep, hs]

/-- With no event left the transaction ends at once. -/
theorem shifterStep_over {s : State} {p : Snap} (hs : s.snap = some p) (hp : p.mosi.length ≤ p.pos) :
    shifterStep s = finishTransfer s p := by
  simp [shifterStep, hs, hp]

/-- An event that is not the last one. -/
theorem shifterStep_event {s : State} {p : Snap} (hs : s.snap = some p) (hp : p.pos + 1 < p.mosi.length) :
    shifterStep s = clockEvent s p := by
  have h0 : ¬ p.mosi.length ≤ p.pos := by omega
  have h1 : ¬ p.mosi.length ≤ p.pos + 1 := by omega
  simp [shifterStep, hs, h0, Snap.sampled, h1]

/-- The last event and the end of the transaction are one step. -/
theorem shifterStep_last {s : State} {p : Snap} (hs : s.snap = some p) (hp : p.pos + 1 = p.mosi.length) :
    shifterStep s = finishTransfer (clockEvent s p) (p.sampled s.drawBit.1) := by
  have h0 : ¬ p.mosi.length ≤ p.pos := by omega
  have h1 : p.mosi.length ≤ p.pos + 1 := by omega
  simp [shifterStep, hs, h0, Snap.sampled, h1]

/-- Everything a step of the shifter can do. -/
theorem shifterStep_cases (s : State) :
    (s.snap = none ∧ shifterStep s = s) ∨
    ∃ p, s.snap = some p ∧
      ((p.mosi.length ≤ p.pos ∧ shifterStep s = finishTransfer s p) ∨
       (p.pos + 1 < p.mosi.length ∧ shifterStep s = clockEvent s p) ∨
       (p.pos + 1 = p.mosi.length ∧
         shifterStep s = finishTransfer (clockEvent s p) (p.sampled s.drawBit.1))) := by
  cases hs : s.snap with
  | none => exact .inl ⟨rfl, shifterStep_idle hs⟩
  | some p =>
    refine .inr ⟨p, rfl, ?_⟩
    by_cases h0 : p.mosi.length ≤ p.pos
    · exact .inl ⟨h0, shifterStep_over hs h0⟩
    by_cases h1 : p.pos + 1 = p.mosi.length
    · exact .inr (.inr ⟨h1, shifterStep_last hs h1⟩)
    · have h2 : p.pos + 1 < p.mosi.length := by omega
      exact .inr (.inl ⟨h2, shifterStep_event hs h2⟩)

/-! ### The frame of the shifter -/

/-- What a step of the shifter leaves as it was (R33, R46, R220, R222). -/
structure Shifted (s t : State) : Prop where
  cfg : t.cfg = s.cfg
  lock : t.lock = s.lock
  xfer : t.xferInLen = s.xferInLen
  latch : t.latch = s.latch
  demux : t.lines.demux = s.lines.demux
  cs : s.lines.cs.isSome = true → t.lines.cs.isSome = true
  clients : t.clients = s.clients
  mem : t.mem = s.mem
  time : t.time = s.time
  cur : t.cur = s.cur
  fields : t.engine = { s.engine with inBuf := t.engine.inBuf, busy := t.engine.busy }
  busy : t.engine.busy = true → s.engine.busy = true
  inBuf : t.engine.busy = true → t.engine.inBuf = s.engine.inBuf
  count : t.devices.length = s.devices.length
  device : ∀ (d : Nat) (dv : Device), s.devices[d]? = some dv →
    ∃ wire, t.devices[d]? = some { dv with wire := wire } ∧ (s.latch.dev ≠ some d → wire = dv.wire)

theorem Shifted.refl (s : State) : Shifted s s where
  cfg := rfl
  lock := rfl
  xfer := rfl
  latch := rfl
  demux := rfl
  cs := id
  clients := rfl
  mem := rfl
  time := rfl
  cur := rfl
  fields := rfl
  busy := id
  inBuf := fun _ => rfl
  count := rfl
  device := fun _ dv hd => ⟨dv.wire, hd, fun _ => rfl⟩

theorem Shifted.trans {s t u : State} (h : Shifted s t) (k : Shifted t u) : Shifted s u where
  cfg := k.cfg.trans h.cfg
  lock := k.lock.trans h.lock
  xfer := k.xfer.trans h.xfer
  latch := k.latch.trans h.latch
  demux := k.demux.trans h.demux
  cs := k.cs ∘ h.cs
  clients := k.clients.trans h.clients
  mem := k.mem.trans h.mem
  time := k.time.trans h.time
  cur := k.cur.trans h.cur
  fields := by rw [k.fields, h.fields]
  busy := h.busy ∘ k.busy
  inBuf := fun hb => (k.inBuf hb).trans (h.inBuf (k.busy hb))
  count := k.count.trans h.count
  device := by
    intro d dv hd
    obtain ⟨w, hw, hsame⟩ := h.device d dv hd
    obtain ⟨w', hw', hsame'⟩ := k.device d _ hw
    exact ⟨w', hw', fun hne => (hsame' (by rwa [h.latch])).trans (hsame hne)⟩

theorem shifted_clockEvent (s : State) (p : Snap) : Shifted s (clockEvent s p) where
  cfg := by simp
  lock := by simp
  xfer := by simp
  latch := by simp
  demux := by simp
  cs := by
    intro h
    rw [clockEvent_cs]
    split
    · rfl
    · exact h
  clients := by simp
  mem := by simp
  time := by simp
  cur := by simp
  fields := by simp
  busy := by simp
  inBuf := by simp
  count := by simp
  device := by
    intro d dv hd
    refine ⟨_, clockEvent_device s p hd, fun hne => if_neg ?_⟩
    rw [State.csBefore_eq]
    simp [State.selected, hne]

theorem shifted_finishTransfer (s : State) (p : Snap) : Shifted s (finishTransfer s p) where
  cfg := by simp
  lock := by simp
  xfer := by simp
  latch := by simp
  demux := by simp
  cs := by
    intro h
    rw [finishTransfer_cs]
    split
    · rfl
    · exact h
  clients := by simp
  mem := by simp
  time := by simp
  cur := by simp
  fields := by rw [finishTransfer_eq]
  busy := by simp
  inBuf := by simp
  count := by simp
  device := fun d dv hd => ⟨dv.wire, by simpa using hd, fun _ => rfl⟩

theorem shifted_shifterStep (s : State) : Shifted s (shifterStep s) := by
  obtain ⟨-, h⟩ | ⟨p, -, ⟨-, h⟩ | ⟨-, h⟩ | ⟨-, h⟩⟩ := shifterStep_cases s <;> rw [h]
  · exact Shifted.refl s
  · exact shifted_finishTransfer s p
  · exact shifted_clockEvent s p
  · exact (shifted_clockEvent s p).trans (shifted_finishTransfer _ _)

theorem clockEvent_devices_of_not_asserted {s : State} {p : Snap} (hcs : s.lines.cs ≠ some .asserted)
    (hp : p.csMode = .software) : (clockEvent s p).devices = s.devices := by
  have hb : s.csBefore p = s := by simp [State.csBefore, hp]
  rw [clockEvent_eq, hb]
  exact State.sendBit_devices_of_not_asserted s _ hcs

/-- Settles O32: the frame of the shifter holds of a clock event and of the end of a transaction, and so of their
composition. -/
theorem shifterFrame : Obligations.ShifterFrame := by
  unfold Obligations.ShifterFrame
  intro s
  have h := shifted_shifterStep s
  refine ⟨h.lock, h.latch, h.clients, h.mem, h.time, h.cfg, h.xfer, h.demux, h.fields, h.inBuf, ?_, h.device⟩
  intro hcs hsw
  obtain ⟨-, h⟩ | ⟨p, hp, ⟨-, h⟩ | ⟨-, h⟩ | ⟨-, h⟩⟩ := shifterStep_cases s <;> rw [h]
  · exact finishTransfer_devices s p
  · exact clockEvent_devices_of_not_asserted hcs (hsw p hp)
  · rw [finishTransfer_devices]
    exact clockEvent_devices_of_not_asserted hcs (hsw p hp)

end Sys2Proof.Machine

/-! PROOFS. What an engine operation does, said once (`Drives`), what no step of a client changes (`ClientFrame`), and
the steps of the machine by the agent that takes them. -/

namespace Sys2Proof.Machine

open Sys2Proof

/-! ### Legal values of the engine registers (R40 to R45) -/

/-- `reset()` leaves no field enabled (R210). -/
theorem Engine.Legal.cleared {e : Engine} (h : e.Legal) : e.cleared.Legal where
  outSize := by simp [Engine.cleared]
  inSize := h.inSize
  command := by simp [Engine.cleared]
  address := by simp [Engine.cleared]
  output := by simp [Engine.cleared]
  dummy := by simp [Engine.cleared]
  input := by simp [Engine.cleared]

theorem Engine.Legal.setCommand {e : Engine} (h : e.Legal) {len : Nat} {v : BitVec 16} (h1 : 1 ≤ len)
    (h2 : len ≤ 16) (hv : v.toNat < 2 ^ len) :
    Engine.Legal { e with cmdEn := some true, cmdLen := some len, cmdVal := some v } :=
  { h with command := fun _ => ⟨len, v, rfl, rfl, h1, h2, hv⟩ }

theorem Engine.Legal.setAddress {e : Engine} (h : e.Legal) {len : Nat} {v : BitVec 32} (h1 : 1 ≤ len)
    (h2 : len ≤ 32) (hv : v.toNat < 2 ^ len) :
    Engine.Legal { e with addrEn := some true, addrLen := some len, addrVal := some v } :=
  { h with address := fun _ => ⟨len, v, rfl, rfl, h1, h2, hv⟩ }

/-- An output field of a legal length whose first `ceil8 len` bytes are defined (R213, R214). -/
theorem Engine.Legal.setOutput {e : Engine} (h : e.Legal) {len : Nat} {buf : List (Option Byte)} (h1 : 1 ≤ len)
    (h2 : len ≤ 512) (hsize : buf.length = 64) (hdef : ∀ j, j < ceil8 len → ∃ b, buf[j]? = some (some b)) :
    Engine.Legal { e with outEn := some true, outLen := some len, outBuf := buf } :=
  { h with outSize := hsize, output := fun _ => ⟨len, rfl, h1, h2, hdef⟩ }

theorem Engine.Legal.configureExec {e : Engine} (h : e.Legal) {dummy recv : Nat} (beo bei : Bool) (hd : dummy ≤ 256)
    (hr : recv ≤ 512) : Engine.Legal
      { e with outBe := some beo, dummyLen := some dummy, inLen := some recv, inBe := some bei } :=
  { h with
    dummy := fun _ hn => Option.some.inj hn ▸ hd
    input := fun _ hn => Option.some.inj hn ▸ hr }

theorem ceil8_le {n : Nat} (h : n ≤ 512) : ceil8 n ≤ 64 := by
  unfold ceil8
  omega

theorem outBufOf_length {bs : List Byte} (h : bs.length ≤ 64) : (outBufOf bs).length = 64 := by
  simp [outBufOf]
  omega

theorem outBufOf_defined {bs : List Byte} {j : Nat} (h : j < bs.length) : ∃ b, (outBufOf bs)[j]? = some (some b) :=
  ⟨bs[j], by simp [outBufOf, List.getElem?_append_left, h]⟩

theorem patternBuf_length (w : BitVec 32) : (patternBuf w).length = 64 := by simp [patternBuf]

theorem patternBuf_defined (w : BitVec 32) {j : Nat} (h : j < 64) : ∃ b, (patternBuf w)[j]? = some (some b) :=
  ⟨w.extractLsb' (8 * (j % 4)) 8, by simp [patternBuf, h]⟩

/-! ### The snapshot of `execute` (R216) -/

theorem fieldBits_length {w : Nat} (len : Nat) (v : BitVec w) (bo : BitOrder) : (fieldBits len v bo).length = len := by
  cases bo <;> simp [fieldBits]

/-- A command or address phase has no more bits than its field's longest length. -/
theorem fieldPhase_length_le {w n : Nat} {en : Option Bool} {len : Option Nat} {v : Option (BitVec w)} {bo : BitOrder}
    {bits : List Bool} (h : fieldPhase en len v bo = some bits)
    (hlen : en = some true → ∃ k x, len = some k ∧ v = some x ∧ 1 ≤ k ∧ k ≤ n ∧ x.toNat < 2 ^ k) :
    bits.length ≤ n := by
  unfold fieldPhase at h
  split at h
  · cases h
    exact Nat.zero_le n
  · next k x =>
    obtain ⟨_, _, hk, -, -, hle, -⟩ := hlen rfl
    cases hk
    cases h
    rwa [fieldBits_length]
  · cases h

theorem outPhase_length_le {e : Engine} (h : e.Legal) {be : Bool} {bo : BitOrder} {bits : List Bool}
    (hb : outPhase e be bo = some bits) : bits.length ≤ 512 := by
  unfold outPhase at hb
  split at hb
  · cases hb
    exact Nat.zero_le 512
  · next n hen hlen =>
    obtain ⟨_, hn, -, hle, -⟩ := h.output hen
    rw [hlen] at hn
    cases hn
    obtain ⟨bs, -, rfl⟩ := Option.map_eq_some_iff.1 hb
    simp only [outBits, List.length_take]
    omega
  · cases hb

/-- The transaction that legal fields describe fits the longest one (R223). -/
theorem Engine.Legal.phases_le {e : Engine} (h : e.Legal) {bo : BitOrder} {bits : List Bool} {dl il : Nat}
    (hp : e.phases bo = some (bits, dl, il)) :
    bits.length ≤ 560 ∧ dl ≤ 256 ∧ il ≤ 512 ∧ e.inLen = some il := by
  unfold Engine.phases at hp
  split at hp
  · next hdl hil =>
    split at hp
    · next ha hb hc =>
      cases hp
      have h1 := fieldPhase_length_le ha h.command
      have h2 := fieldPhase_length_le hb h.address
      have h3 := outPhase_length_le h hc
      refine ⟨?_, h.dummy _ hdl, h.input _ hil, hil⟩
      simp only [List.length_append]
      omega
    · cases hp
  · cases hp

/-- What `execute` takes from legal fields is a legal snapshot. -/
theorem Engine.Legal.snapOf_legal {e : Engine} (h : e.Legal) {bo : BitOrder} {cm : CsMode} {bits : List Bool}
    {dl il : Nat} (hp : e.phases bo = some (bits, dl, il)) (hbe : e.badBeLength = false) :
    (snapOf bits dl il (decide (e.inBe = some true)) bo cm).Legal := by
  obtain ⟨hbits, hdl, hil, hinLen⟩ := h.phases_le hp
  have hlen : (snapOf bits dl il (decide (e.inBe = some true)) bo cm).mosi.length = bits.length + (dl + il) := by
    simp [snapOf]
  refine ⟨?inside, by omega, hil, ?phases, ?held, ?kept, ?groups⟩
  case inside =>
    rcases Nat.eq_zero_or_pos (snapOf bits dl il (decide (e.inBe = some true)) bo cm).mosi.length with h0 | h0
    · exact .inr (List.length_eq_zero_iff.1 h0)
    · exact .inl h0
  case phases =>
    show bits.length + il ≤ _
    omega
  case held =>
    intro k (hk : bits.length ≤ k) hlt
    have hk' : k - bits.length < dl + il := by omega
    show (bits ++ List.replicate (dl + il) true)[k]? = some true
    rw [List.getElem?_append_right hk, List.getElem?_replicate, if_pos hk']
  case kept => exact (Nat.zero_sub _).symm
  case groups =>
    intro (hin : decide (e.inBe = some true) = true)
    show il % 32 = 0
    simp only [Engine.badBeLength, hinLen, hin, Bool.or_eq_false_iff, Bool.and_eq_false_iff, Option.getD_some,
      decide_eq_false_iff_not] at hbe
    obtain ⟨-, (h0 | h0) | h0⟩ := hbe
    · omega
    · cases h0
    · omega

/-! ### What an engine operation does -/

/-- An engine operation that neither takes nor frees the bus. -/
def EngineOp.plain : EngineOp → Bool
  | .acquire _ | .release => false
  | _ => true

/-- What an engine operation of client `c` that completes does to the state (R200 to R218). -/
inductive Drives (c : Nat) (s : State) : EngineOp → State → Prop
  | grant (dev : Nat) (d : Device) (ready : s.lock.ready = true) (free : s.lock.owner = none)
      (device : s.devices[dev]? = some d) : Drives c s (.acquire dev) (grant c dev d s)
  | free (owns : s.owns c = true) (idle : s.engine.busy = false) :
      Drives c s .release (s.withLock { s.lock with owner := none })
  | clock (op : EngineOp) (plain : op.plain = true) (owns : s.owns c = true) (idle : s.engine.busy = false)
      (w : ClockWord) : Drives c s op (s.withLatch { s.latch with clock := some w })
  | chipSelect (op : EngineOp) (plain : op.plain = true) (owns : s.owns c = true) (idle : s.engine.busy = false)
      (v : CsLine) : Drives c s op (s.withCs v)
  | field (op : EngineOp) (plain : op.plain = true) (owns : s.owns c = true) (idle : s.engine.busy = false)
      (e : Engine) (inBuf : e.inBuf = s.engine.inBuf) (busy : e.busy = s.engine.busy)
      (legal : s.engine.Legal → e.Legal) : Drives c s op (s.withEngine e)
  | start (op : EngineOp) (plain : op.plain = true) (owns : s.owns c = true) (idle : s.engine.busy = false)
      (p : Snap) (legal : s.engine.Legal → p.Legal) : Drives c s op (s.started p)
  | look (op : EngineOp) (plain : op.plain = true) (owns : s.owns c = true) (idle : s.engine.busy = false) :
      Drives c s op s

theorem drives_of_done {c : Nat} {op : EngineOp} {s u : State} {b : Option (List Byte)}
    (h : engineOp c op s = .done u b) : Drives c s op u := by
  cases op <;> simp only [engineOp, csAssertOp, csDeassertOp] at h
  case acquire =>
    obtain ⟨hr, hf, d, hd, rfl, -⟩ := acquireOp_done.1 h
    exact .grant _ d hr hf hd
  case release =>
    obtain ⟨ho, hb, rfl, -⟩ := releaseOp_done.1 h
    exact .free ho hb
  case setClock =>
    obtain ⟨ho, hb, rfl, -⟩ := setClockOp_done.1 h
    exact .clock _ rfl ho hb _
  case csAssert =>
    obtain ⟨ho, hb, -, rfl, -⟩ := driveCs_done.1 h
    exact .chipSelect _ rfl ho hb _
  case csDeassert =>
    obtain ⟨ho, hb, -, rfl, -⟩ := driveCs_done.1 h
    exact .chipSelect _ rfl ho hb _
  case reset =>
    obtain ⟨ho, hb, rfl, -⟩ := resetOp_done.1 h
    exact .field _ rfl ho hb _ rfl rfl fun hl => hl.cleared
  case setCommand =>
    obtain ⟨ho, hb, ⟨h1, h2, hv⟩, rfl, -⟩ := setCommandOp_done.1 h
    exact .field _ rfl ho hb _ rfl rfl fun hl => hl.setCommand h1 h2 hv
  case setAddress =>
    obtain ⟨ho, hb, ⟨h1, h2, hv⟩, rfl, -⟩ := setAddressOp_done.1 h
    exact .field _ rfl ho hb _ rfl rfl fun hl => hl.setAddress h1 h2 hv
  case setOutput len bs =>
    obtain ⟨ho, hb, ⟨h1, h2, hlen⟩, rfl, -⟩ := setOutputOp_done.1 h
    exact .field _ rfl ho hb _ rfl rfl fun hl =>
      hl.setOutput h1 h2 (outBufOf_length (hlen ▸ ceil8_le h2)) fun j hj => outBufOf_defined (hlen ▸ hj)
  case setOutputPattern len w =>
    obtain ⟨ho, hb, ⟨h1, h2⟩, rfl, -⟩ := setOutputPatternOp_done.1 h
    exact .field _ rfl ho hb _ rfl rfl fun hl =>
      hl.setOutput h1 h2 (patternBuf_length w) fun j hj => patternBuf_defined w (Nat.lt_of_lt_of_le hj (ceil8_le h2))
  case configureExec =>
    obtain ⟨ho, hb, ⟨hd, hr⟩, rfl, -⟩ := configureExecOp_done.1 h
    exact .field _ rfl ho hb _ rfl rfl fun hl => hl.configureExec _ _ hd hr
  case execute =>
    obtain ⟨ho, hb, bo, cm, bits, dl, il, -, -, hp, hbe, rfl, -⟩ := executeOp_done.1 h
    exact .start _ rfl ho hb _ fun hl => hl.snapOf_legal hp hbe
  case wait =>
    obtain ⟨ho, hb, rfl, -⟩ := waitOp_done.1 h
    exact .look _ rfl ho hb
  case readTmp =>
    obtain ⟨ho, hb, rfl, -⟩ := readResultOp_done.1 h
    exact .look _ rfl ho hb

theorem Drives.inBuf {c : Nat} {op : EngineOp} {s u : State} (h : Drives c s op u) :
    u.engine.inBuf = s.engine.inBuf := by
  cases h with
  | field _ _ _ _ e hin => exact hin
  | _ => rfl

/-! ### What no step of a client changes -/

/-- A step of the client `s.cur` leaves the records of the other clients, the configuration and IN_BUF as they were,
and TIME does not go back (R32, R35, R36, R222). -/
structure ClientFrame (s t : State) : Prop where
  cfg : t.cfg = s.cfg
  cur : t.cur = s.cur
  time : s.time ≤ t.time
  others : ∀ c, c ≠ s.cur → t.clients[c]? = s.clients[c]?
  count : t.clients.length = s.clients.length
  devices : t.devices.length = s.devices.length
  inBuf : t.engine.inBuf = s.engine.inBuf
  device : ∀ (d : Nat) (dv : Device), s.devices[d]? = some dv →
    ∃ hc se, t.devices[d]? = some { dv with hc := hc, session := se }

theorem Quiet.clientFrame {s t : State} (h : Quiet s t) : ClientFrame s t where
  cfg := h.cfg
  cur := h.cur
  time := h.time
  others := h.others
  count := h.count
  devices := congrArg List.length h.devices
  inBuf := congrArg Engine.inBuf h.engine
  device := fun _ dv hd => ⟨dv.hc, dv.session, by rw [h.devices, hd]⟩

theorem ClientFrame.trans {s t u : State} (h : ClientFrame s t) (k : ClientFrame t u) : ClientFrame s u where
  cfg := k.cfg.trans h.cfg
  cur := k.cur.trans h.cur
  time := Nat.le_trans h.time k.time
  others := fun c hc => (k.others c (by rwa [h.cur])).trans (h.others c hc)
  count := k.count.trans h.count
  devices := k.devices.trans h.devices
  inBuf := k.inBuf.trans h.inBuf
  device := by
    intro d dv hd
    obtain ⟨_, _, ht⟩ := h.device d dv hd
    obtain ⟨hc, se, hu⟩ := k.device d _ ht
    exact ⟨hc, se, hu⟩

/-- A state that differs from `s` outside what the frame is about. -/
theorem SameOutside.clientFrame {s u : State} (h : SameOutside s u) (hin : u.engine.inBuf = s.engine.inBuf) :
    ClientFrame s u where
  cfg := h.cfg
  cur := h.cur
  time := Nat.le_of_eq h.time.symm
  others := fun _ _ => by rw [h.clients]
  count := congrArg List.length h.clients
  devices := congrArg List.length h.devices
  inBuf := hin
  device := fun _ dv hd => ⟨dv.hc, dv.session, by rw [h.devices, hd]⟩

/-- A write of a device's flag or session (R52, R55). -/
theorem clientFrame_changeDevice (s : State) (n : Nat) {f : Device → Device}
    (hf : ∀ dv, ∃ hc se, f dv = { dv with hc := hc, session := se }) : ClientFrame s (s.changeDevice n f) where
  cfg := rfl
  cur := rfl
  time := Nat.le_refl _
  others := fun _ _ => rfl
  count := rfl
  devices := by simp
  inBuf := rfl
  device := by
    intro d dv hd
    by_cases hdn : d = n
    · obtain ⟨hc, se, heq⟩ := hf dv
      refine ⟨hc, se, ?_⟩
      rw [State.changeDevice_devices, hdn, changeAt_same, ← hdn, hd, ← heq]
      rfl
    · exact ⟨dv.hc, dv.session, by rw [State.changeDevice_devices, changeAt_other _ _ hdn, hd]⟩

theorem clientFrame_withHc (s : State) (d : Nat) (hc : Bool) : ClientFrame s (s.withHc d hc) :=
  clientFrame_changeDevice s d fun dv => ⟨hc, dv.session, rfl⟩

theorem clientFrame_withSession (s : State) (d : Nat) (se : Session) : ClientFrame s (s.withSession d se) :=
  clientFrame_changeDevice s d fun dv => ⟨dv.hc, se, rfl⟩

theorem engineOp_blocked_engine {c : Nat} {op : EngineOp} {s u : State} (h : engineOp c op s = .blocked u) :
    u.engine = s.engine := by
  obtain ⟨dev, rfl⟩ | ⟨-, rfl⟩ := engineOp_blocked h
  · obtain ⟨-, -, -, -, rfl⟩ := acquireOp_blocked.1 h
    rfl
  · rfl

/-- Whatever a step of a client does, it is within the frame. -/
theorem Effect.clientFrame {init st : Bool} {s t : State} (h : Effect init st s t) : ClientFrame s t := by
  cases h with
  | quiet h => exact h.clientFrame
  | engine op u b run h =>
    exact ((engineOp_done_outside run).clientFrame (drives_of_done run).inBuf).trans h.clientFrame
  | blocked op u run h =>
    exact ((engineOp_blocked_outside run).clientFrame
      (congrArg Engine.inBuf (engineOp_blocked_engine run))).trans h.clientFrame
  | lock u b run h =>
    obtain ⟨-, rfl, -⟩ := busInitOp_done.1 run
    have hout : SameOutside s (s.withLock ⟨true, none, []⟩) := by constructor <;> rfl
    exact (hout.clientFrame rfl).trans h.clientFrame
  | store _ base bs u run h =>
    obtain rfl := State.writeBuffer_some run
    refine ClientFrame.trans (t := s.withMem _) ?_ h.clientFrame
    exact ⟨rfl, rfl, Nat.le_refl _, fun _ _ => rfl, rfl, rfl, rfl, fun _ dv hd => ⟨dv.hc, dv.session, hd⟩⟩
  | session _ d se h => exact (clientFrame_withSession s d se).trans h.clientFrame
  | flag _ d h => exact (clientFrame_withHc s d true).trans h.clientFrame
  | clear _ d h =>
    exact ((clientFrame_withHc s d false).trans (clientFrame_withSession _ d _)).trans h.clientFrame

/-- Outside an initialization no step of a client writes a device. -/
theorem Effect.devices_eq {st : Bool} {s t : State} (h : Effect false st s t) : t.devices = s.devices := by
  cases h with
  | quiet h => exact h.devices
  | engine op u b run h => exact h.devices.trans (engineOp_done_outside run).devices
  | blocked op u run h => exact h.devices.trans (engineOp_blocked_outside run).devices
  | lock u b run h =>
    obtain ⟨-, rfl, -⟩ := busInitOp_done.1 run
    exact h.devices
  | store _ base bs u run h =>
    obtain rfl := State.writeBuffer_some run
    exact h.devices
  | session allowed => cases allowed
  | flag allowed => cases allowed
  | clear allowed => cases allowed

/-- A step that a client leads has one of the effects of `Effect`. -/
theorem clientLeads.effect {s t : State} (h : clientLeads s t) : ∃ init, Effect init true s t := by
  obtain ⟨i, hi⟩ | ⟨op, hop⟩ := h
  · exact ⟨_, exec_effect i s t true (fun _ => rfl) (.inl rfl) hi⟩
  · exact ⟨_, execPseudo_effect op s t true (.inl rfl) hop⟩

theorem clientLeads.frame {s t : State} (h : clientLeads s t) : ClientFrame s t := by
  obtain ⟨init, h⟩ := h.effect
  exact h.clientFrame

/-! ### One step of the machine -/

/-- Taking the turn changes the environment's answers alone. -/
theorem State.nextAgent_eq (s : State) : s.nextAgent.2 = { s with env := s.nextAgent.2.env } := by
  unfold State.nextAgent
  split <;> rfl

/-- What a client asks for, run as a step of its own. -/
def Request.leads (r : Request) (s t : State) : Prop :=
  (∃ call i, r = .encoded call ∧ decodeCall call = .ok i ∧ exec i s = .next t) ∨
  ∃ op, r = .pseudo op ∧ execPseudo op s = .next t

theorem Request.leads.clientLeads {r : Request} {s t : State} (h : r.leads s t) : clientLeads s t := by
  obtain ⟨_, i, -, -, h⟩ | ⟨op, -, h⟩ := h
  · exact .inl ⟨i, h⟩
  · exact .inr ⟨op, h⟩

/-- A step of the machine is a step of the shifter, no step of a client that asks for nothing, or what a client asks
for (R31). -/
theorem step_cases {s t : State} (h : step s = .next t) :
    t = shifterStep s.nextAgent.2 ∨ t = s.nextAgent.2 ∨
    ∃ c r, s.pendingCall c = some r ∧ r.leads (s.nextAgent.2.withCur c) t := by
  unfold step at h
  split at h
  · next c u hu =>
    have hp : s.pendingCall c = u.pendingCall c := by
      have hcl := s.nextAgent_clients
      rw [hu] at hcl
      simp only [State.pendingCall, ← hcl]
    rw [hu]
    unfold clientStep at h
    split at h
    · cases h
      exact .inr (.inl rfl)
    · next call hcall =>
      split at h
      · cases h
      · next i hi => exact .inr (.inr ⟨c, _, hp.trans hcall, .inl ⟨call, i, rfl, hi, h⟩⟩)
    · next op hop => exact .inr (.inr ⟨c, _, hp.trans hop, .inr ⟨op, rfl, h⟩⟩)
  · next u hu =>
    cases h
    exact .inl (by rw [hu])

/-- Settles O14: the shifter and the clients change of a device at most its flag, its session and its wire record. -/
theorem configurationNeverChanges : Obligations.ConfigurationNeverChanges := by
  unfold Obligations.ConfigurationNeverChanges
  intro s t ht
  obtain rfl | rfl | ⟨c, r, -, hr⟩ := step_cases ht
  · have h := shifted_shifterStep s.nextAgent.2
    simp only [State.nextAgent_cfg, State.nextAgent_clients, State.nextAgent_devices, h.cfg, h.clients, h.count,
      true_and]
    intro d dv dv' hd hd'
    obtain ⟨w, hw, -⟩ := h.device d dv (by simpa using hd)
    cases hw.symm.trans hd'
    simp
  · simp only [State.nextAgent_cfg, State.nextAgent_clients, State.nextAgent_devices, true_and]
    intro d dv dv' hd hd'
    cases hd.symm.trans hd'
    simp
  · have h := hr.clientLeads.frame
    refine ⟨by simpa using h.cfg, by simpa using h.count, by simpa using h.devices, ?_⟩
    intro d dv dv' hd hd'
    obtain ⟨hc, se, hw⟩ := h.device d dv (by simpa using hd)
    cases hw.symm.trans hd'
    simp

/-- Settles O15: `Effect` writes a flag or a session only where the step initializes. -/
theorem onlyInitializeWritesFlagAndSession : Obligations.OnlyInitializeWritesFlagAndSession := by
  unfold Obligations.OnlyInitializeWritesFlagAndSession
  intro s t h d dv dv' hd hd'
  have hdev : t.devices = s.devices := by
    obtain ⟨i, hi, h⟩ | ⟨op, h⟩ := h
    · exact Effect.devices_eq (st := true) (hi ▸ exec_effect i s t true (fun _ => rfl) (.inl rfl) h)
    · exact (execPseudo_effect op s t true (.inl rfl) h).devices_eq
  rw [hdev, hd] at hd'
  cases hd'
  exact ⟨rfl, rfl⟩

/-- Settles O17: the frame of a step of a client; the shifter reads no time. -/
theorem stepsLeaveOthersAlone : Obligations.StepsLeaveOthersAlone := by
  unfold Obligations.StepsLeaveOthersAlone
  refine ⟨fun s t h => ?leads, fun s t ht => ?time⟩
  case leads =>
    have hf := h.frame
    refine ⟨hf.others, hf.cfg, hf.cur, fun d dv dv' hd hd' => ?_⟩
    obtain ⟨hc, se, hw⟩ := hf.device d dv hd
    cases hw.symm.trans hd'
    rfl
  case time =>
    obtain rfl | rfl | ⟨c, r, -, hr⟩ := step_cases ht
    · simp [(shifted_shifterStep s.nextAgent.2).time]
    · simp
    · simpa using hr.clientLeads.frame.time

end Sys2Proof.Machine

/-! PROOFS. IN_BUF at the end of a transaction, and the invariant of the machine (O11, O33). -/

namespace Sys2Proof.Machine

open Sys2Proof

/-! ### What the end of a transaction writes into IN_BUF (R85, R222) -/

@[simp] theorem packBytes_length (bo : BitOrder) (bits : List Bool) (n : Nat) : (packBytes bo bits n).length = n := by
  induction n generalizing bits with
  | zero => rfl
  | succ n ih => simp [packBytes, ih]

@[simp] theorem inStream_length (bo : BitOrder) (samples : List Bool) (inLen k : Nat) :
    (inStream bo samples inLen k).length = ceil8 inLen := by simp [inStream]

@[simp] theorem storeStream_length (be : Bool) (j : Nat) (bs : List Byte) (buf : List (Option Byte)) :
    (storeStream be j bs buf).length = buf.length := by
  induction bs generalizing j buf with
  | nil => rfl
  | cons b bs ih => simp [storeStream, ih]

/-- A place at which no stream byte stands keeps its byte. -/
theorem storeStream_other {be : Bool} {j k : Nat} {bs : List Byte} {buf : List (Option Byte)}
    (h : ∀ i, i < bs.length → streamIndex be (j + i) ≠ k) : (storeStream be j bs buf)[k]? = buf[k]? := by
  induction bs generalizing j buf with
  | nil => rfl
  | cons b bs ih =>
    have hhead : streamIndex be j ≠ k := h 0 (Nat.zero_lt_succ _)
    rw [storeStream, ih, List.getElem?_set_ne hhead]
    intro i hi
    have := h (i + 1) (Nat.succ_lt_succ hi)
    rwa [show j + (i + 1) = j + 1 + i by omega] at this

/-- A place that is defined stays defined. -/
theorem storeStream_keeps_defined {be : Bool} {j k : Nat} {bs : List Byte} {buf : List (Option Byte)}
    (h : ∃ b, buf[k]? = some (some b)) : ∃ b, (storeStream be j bs buf)[k]? = some (some b) := by
  induction bs generalizing j buf with
  | nil => exact h
  | cons b bs ih =>
    refine ih ?_
    obtain ⟨b', hb'⟩ := h
    have hk : k < buf.length := (List.getElem?_eq_some_iff.1 hb').1
    by_cases hjk : streamIndex be j = k
    · exact ⟨b, by simp [hjk, hk]⟩
    · exact ⟨b', by rw [List.getElem?_set_ne hjk, hb']⟩

/-- The place of a stream byte is defined afterwards. -/
theorem storeStream_defined {be : Bool} {i j : Nat} {bs : List Byte} {buf : List (Option Byte)} (hi : i < bs.length)
    (hbuf : streamIndex be (j + i) < buf.length) :
    ∃ b, (storeStream be j bs buf)[streamIndex be (j + i)]? = some (some b) := by
  induction bs generalizing i j buf with
  | nil => cases hi
  | cons b bs ih =>
    cases i with
    | zero =>
      rw [storeStream]
      exact storeStream_keeps_defined ⟨b, List.getElem?_set_self hbuf⟩
    | succ i =>
      have := ih (i := i) (j := j + 1) (buf := buf.set (streamIndex be j) (some b)) (Nat.lt_of_succ_lt_succ hi)
        (by simpa [show j + (i + 1) = j + 1 + i by omega] using hbuf)
      rwa [show j + (i + 1) = j + 1 + i by omega]

/-- The groups of four are turned over, so doing it twice changes nothing. -/
theorem streamIndex_streamIndex (be : Bool) (j : Nat) : streamIndex be (streamIndex be j) = j := by
  cases be
  · rfl
  · simp only [streamIndex, if_true]
    omega

/-- The places of the first `n` stream bytes are the first `n` places, where `n` is whole groups or nothing is turned
over. -/
theorem streamIndex_lt {be : Bool} {j n : Nat} (hn : be = true → n % 4 = 0) (hj : j < n) : streamIndex be j < n := by
  cases be
  · exact hj
  · have := hn rfl
    simp only [streamIndex, if_true]
    omega

theorem ceil8_groups {n : Nat} (h : n % 32 = 0) : ceil8 n % 4 = 0 := by
  unfold ceil8
  omega

/-- Only the first `ceil8(IN_LEN)` places of IN_BUF are written (R222). -/
theorem finishTransfer_inBuf_rest {s : State} {p : Snap} (hg : p.inBe = true → p.inLen % 32 = 0) {k : Nat}
    (hk : ceil8 p.inLen ≤ k) : (finishTransfer s p).engine.inBuf[k]? = s.engine.inBuf[k]? := by
  rw [finishTransfer_inBuf]
  refine storeStream_other fun i hi => ?_
  have hlt := streamIndex_lt (fun hbe => ceil8_groups (hg hbe)) (inStream_length _ _ _ _ ▸ hi)
  rw [Nat.zero_add]
  omega

/-- ... and all of them are defined afterwards (R218, R222). -/
theorem finishTransfer_inBuf_defined {s : State} {p : Snap} (hg : p.inBe = true → p.inLen % 32 = 0)
    (hsize : s.engine.inBuf.length = 64) (hlen : p.inLen ≤ 512) {k : Nat} (hk : k < ceil8 p.inLen) :
    ∃ b, (finishTransfer s p).engine.inBuf[k]? = some (some b) := by
  have hlt := streamIndex_lt (fun hbe => ceil8_groups (hg hbe)) hk
  have h64 := ceil8_le hlen
  have h := storeStream_defined (be := p.inBe) (i := streamIndex p.inBe k) (j := 0) (buf := s.engine.inBuf)
    (bs := inStream p.bitOrder p.samples p.inLen s.env.draws) (by simpa using hlt)
    (by rw [Nat.zero_add, streamIndex_streamIndex]; omega)
  rwa [Nat.zero_add, streamIndex_streamIndex, ← finishTransfer_inBuf] at h

theorem finishTransfer_inBuf_nothing {s : State} {p : Snap} (h : p.inLen = 0) :
    (finishTransfer s p).engine.inBuf = s.engine.inBuf := by
  have hnil : inStream p.bitOrder p.samples p.inLen s.env.draws = [] :=
    List.length_eq_zero_iff.1 (by rw [inStream_length, h]; rfl)
  rw [finishTransfer_inBuf, hnil]
  rfl

/-- A step of the shifter that ends no transaction leaves IN_BUF as it was; one that ends it does what
`finishTransfer` does to it. -/
theorem shifterStep_inBuf {s : State} {p : Snap} (hs : s.snap = some p) :
    (shifterStep s).engine.inBuf = s.engine.inBuf ∨
    ∃ u q, u.engine = s.engine ∧ q.inLen = p.inLen ∧ q.inBe = p.inBe ∧ shifterStep s = finishTransfer u q := by
  obtain ⟨h, -⟩ | ⟨q, hq, ⟨-, h⟩ | ⟨-, h⟩ | ⟨-, h⟩⟩ := shifterStep_cases s
  · cases hs.symm.trans h
  · cases hs.symm.trans hq
    exact .inr ⟨s, p, rfl, rfl, rfl, h⟩
  · exact .inl (by rw [h, clockEvent_engine])
  · cases hs.symm.trans hq
    exact .inr ⟨_, p.sampled s.drawBit.1, clockEvent_engine s p, rfl, rfl, h⟩

/-- Settles O33: only `finishTransfer` writes IN_BUF, and its stream has `ceil8(IN_LEN)` bytes. -/
theorem inputBufferKeepsItsRest : Obligations.InputBufferKeepsItsRest := by
  unfold Obligations.InputBufferKeepsItsRest
  refine ⟨fun s p hs hp _ => ?shifter, fun s t h => h.frame.inBuf⟩
  case shifter =>
    obtain h | ⟨u, q, hu, hlen, hbe, h⟩ := shifterStep_inBuf hs
    · exact ⟨fun hne => absurd h hne, fun k _ => by rw [h]⟩
    · rw [h, ← hu, ← hlen]
      refine ⟨fun hne => ⟨finishTransfer_busy u q, Nat.pos_of_ne_zero fun h0 => ?_⟩, fun k hk => ?_⟩
      · exact hne (finishTransfer_inBuf_nothing h0)
      · exact finishTransfer_inBuf_rest (fun hq => hlen ▸ hp.groups (hbe ▸ hq)) hk

/-! ### The invariant under the steps of a client -/

/-- The invariant says nothing of the clients, of TIME and of the environment's answers. -/
theorem Inv.of_quiet {s t : State} (h : Inv s) (k : Quiet s t) : Inv t := by
  have ht : t = { s with clients := t.clients, time := t.time, env := t.env } := by
    obtain ⟨⟩ := s
    obtain ⟨⟩ := t
    obtain ⟨⟩ := k
    simp_all
  rw [ht]
  exact { h with }

/-- Of the same number of devices each has the descriptor it had. -/
theorem demux_of_devices {s t : State} (hlen : t.devices.length = s.devices.length)
    (hdev : ∀ (d : Nat) (dv : Device), s.devices[d]? = some dv →
      ∃ hc se w, t.devices[d]? = some { dv with hc := hc, session := se, wire := w })
    {d : Nat} {dv : Device} (hd : t.devices[d]? = some dv) :
    ∃ dv', s.devices[d]? = some dv' ∧ dv'.demux = dv.demux := by
  have hlt : d < s.devices.length := hlen ▸ (List.getElem?_eq_some_iff.1 hd).1
  obtain ⟨hc, se, w, ht⟩ := hdev d _ (List.getElem?_eq_getElem hlt)
  cases ht.symm.trans hd
  exact ⟨_, List.getElem?_eq_getElem hlt, rfl⟩

/-- The bus is taken for a device (R202). -/
theorem Inv.grant {s : State} (h : Inv s) {c dev : Nat} {d : Device} (hr : s.lock.ready = true)
    (hd : s.devices[dev]? = some d) : Inv (grant c dev d s) :=
  { h with
    noLock := fun hn => Bool.noConfusion (hr.symm.trans hn)
    inFlight := fun _ => rfl
    programmed := fun _ => rfl
    latch := by
      intro d' hd'
      cases hd'
      exact ⟨d, hd, rfl, rfl, rfl, rfl, rfl, rfl, rfl⟩
    pins := by
      intro n hn
      cases hn
      exact s.selector_lt d
    waiters := h.waiters.filter _
    waited := fun p hp => h.waited p (List.mem_of_mem_filter hp) }

theorem insertWaiter_mem {p q : Nat × Nat} {l : List (Nat × Nat)} : q ∈ insertWaiter p l ↔ q = p ∨ q ∈ l := by
  induction l with
  | nil => simp [insertWaiter]
  | cons a l ih =>
    unfold insertWaiter
    split
    · next h => simp [h]
    · split
      · simp
      · simp only [List.mem_cons, ih]
        tauto

theorem removeWaiter_mem {p q : Nat × Nat} {l : List (Nat × Nat)} : q ∈ removeWaiter p l ↔ q ≠ p ∧ q ∈ l := by
  simp [removeWaiter, and_comm]

theorem waiterLt_iff {p q : Nat × Nat} : waiterLt p q = true ↔ p.1 < q.1 ∨ (p.1 = q.1 ∧ p.2 < q.2) := by
  simp [waiterLt]

theorem waiterLt_trans {p q r : Nat × Nat} (h : waiterLt p q = true) (k : waiterLt q r = true) :
    waiterLt p r = true := by
  rw [waiterLt_iff] at *
  omega

/-- Of two pairs one comes first. -/
theorem waiterLt_of_not {p q : Nat × Nat} (hne : p ≠ q) (h : ¬ waiterLt p q = true) : waiterLt q p = true := by
  rw [waiterLt_iff] at *
  have hcomp : p.1 ≠ q.1 ∨ p.2 ≠ q.2 := by
    by_contra hc
    obtain ⟨h1, h2⟩ := not_or.1 hc
    exact hne (Prod.ext (not_not.1 h1) (not_not.1 h2))
  omega

/-- A pair put in keeps the waiters in rising order. -/
theorem insertWaiter_pairwise (p : Nat × Nat) {l : List (Nat × Nat)}
    (h : l.Pairwise fun p q => waiterLt p q = true) : (insertWaiter p l).Pairwise fun p q => waiterLt p q = true := by
  induction l with
  | nil => exact List.pairwise_singleton _ _
  | cons a l ih =>
    have ⟨hhead, htail⟩ := List.pairwise_cons.1 h
    unfold insertWaiter
    split
    · exact h
    · next hne =>
      split
      · next hlt =>
        refine List.pairwise_cons.2 ⟨fun q hq => ?_, h⟩
        rcases List.mem_cons.1 hq with rfl | hq
        · exact hlt
        · exact waiterLt_trans hlt (hhead q hq)
      · next hlt =>
        refine List.pairwise_cons.2 ⟨fun q hq => ?_, ih htail⟩
        rcases insertWaiter_mem.1 hq with rfl | hq
        · exact waiterLt_of_not hne hlt
        · exact hhead q hq

/-- A client is put among the waiters (R202). -/
theorem Inv.waiting {s : State} (h : Inv s) {c dev : Nat} (hr : s.lock.ready = true) (hd : dev < s.devices.length) :
    Inv (s.withLock { s.lock with waiters := insertWaiter (c, dev) s.lock.waiters }) :=
  { h with
    noLock := fun hn => Bool.noConfusion (hr.symm.trans hn)
    waiters := insertWaiter_pairwise _ h.waiters
    waited := by
      intro p hp
      rcases insertWaiter_mem.1 hp with rfl | hp
      · exact hd
      · exact h.waited p hp }

/-- The engine's registers are written while no transaction is in flight (R210 to R215). -/
theorem Inv.withEngine {s : State} (h : Inv s) {e : Engine} (hl : e.Legal) (hin : e.inBuf = s.engine.inBuf)
    (hb : e.busy = s.engine.busy) : Inv (s.withEngine e) :=
  { h with
    engine := hl
    present := hb.trans h.present
    result := fun n hn hi j hj => by
      rw [State.withEngine_engine, hin]
      exact h.result n hn (hb.symm.trans hi) j hj
    noLock := fun hn =>
      have ⟨ho, hw, hi⟩ := h.noLock hn
      ⟨ho, hw, hb.trans hi⟩
    inFlight := fun hbusy => h.inFlight (hb.symm.trans hbusy) }

/-- A transaction is started by the owner (R216). -/
theorem Inv.started {s : State} (h : Inv s) {c : Nat} {p : Snap} (ho : s.owns c = true) (hp : p.Legal) :
    Inv (s.started p) := by
  obtain ⟨hr, howner⟩ := owns_iff.1 ho
  exact { h with
    engine := { h.engine with }
    present := rfl
    snapshot := by
      intro q hq
      cases hq
      exact ⟨hp, rfl⟩
    xfer := by
      intro n hn
      cases hn
      exact hp.input
    result := fun _ _ hb => Bool.noConfusion hb
    noLock := fun hn => Bool.noConfusion (hr.symm.trans hn)
    inFlight := fun _ => by simp [State.started, howner] }

/-- Every engine operation keeps the invariant. -/
theorem Drives.inv {c : Nat} {op : EngineOp} {s u : State} (h : Drives c s op u) (hi : Inv s) : Inv u := by
  cases h with
  | grant dev d hr _ hd => exact hi.grant hr hd
  | free ho hb =>
    obtain ⟨hr, -⟩ := owns_iff.1 ho
    exact { hi with
      noLock := fun hn => Bool.noConfusion (hr.symm.trans hn)
      inFlight := fun hbusy => Bool.noConfusion (hb.symm.trans hbusy)
      programmed := fun hn => Bool.noConfusion hn }
  | clock _ _ _ _ w =>
    exact { hi with
      latch := by
        intro d hd
        obtain ⟨dv, hdv, hm, hbo, hcs, hsh, hdm, -, hline⟩ := hi.latch d hd
        exact ⟨dv, hdv, hm, hbo, hcs, hsh, hdm, rfl, hline⟩ }
  | chipSelect _ _ _ _ v =>
    exact { hi with
      latch := by
        intro d hd
        obtain ⟨dv, hdv, hm, hbo, hcs, hsh, hdm, hclock, -⟩ := hi.latch d hd
        exact ⟨dv, hdv, hm, hbo, hcs, hsh, hdm, hclock, rfl⟩ }
  | field _ _ _ _ e hin hbusy hl => exact hi.withEngine (hl hi.engine) hin hbusy
  | start _ _ ho _ p hp => exact hi.started ho (hp hi.engine)
  | look => exact hi

/-- The latch and the lines agree with a device whose descriptor they were taken from. -/
theorem State.latchedFor.congr {s t : State} {d : Nat} (h : s.latchedFor d) (hcfg : t.cfg = s.cfg)
    (hlatch : t.latch = s.latch) (hdm : t.lines.demux = s.lines.demux)
    (hcs : s.lines.cs.isSome = true → t.lines.cs.isSome = true)
    (hdev : ∀ dv, s.devices[d]? = some dv →
      ∃ hc se w, t.devices[d]? = some { dv with hc := hc, session := se, wire := w }) : t.latchedFor d := by
  obtain ⟨dv, hdv, hm, hbo, hcsm, hsh, hd, hclock, hline⟩ := h
  obtain ⟨hc, se, w, ht⟩ := hdev dv hdv
  refine ⟨_, ht, ?_⟩
  rw [hlatch, hdm]
  refine ⟨hm, hbo, hcsm, hsh, hd.trans ?_, hclock, hcs hline⟩
  simp [State.selector, hcfg]

/-- A change of the flag or session of a device keeps the invariant. -/
theorem Inv.changeDevice {s : State} (h : Inv s) (n : Nat) {f : Device → Device}
    (hf : ∀ dv, ∃ hc se, f dv = { dv with hc := hc, session := se }) : Inv (s.changeDevice n f) := by
  have hframe := clientFrame_changeDevice s n hf
  exact { h with
    latch := by
      intro d hd
      refine (h.latch d hd).congr rfl rfl rfl id fun dv hdv => ?_
      obtain ⟨hc, se, ht⟩ := hframe.device d dv hdv
      exact ⟨hc, se, dv.wire, ht⟩
    selectors := by
      intro d dv hd
      obtain ⟨dv', hd', hdm⟩ := demux_of_devices hframe.devices (fun d dv hdv => by
        obtain ⟨hc, se, ht⟩ := hframe.device d dv hdv
        exact ⟨hc, se, dv.wire, ht⟩) hd
      exact hdm ▸ h.selectors d dv' hd'
    waited := fun p hp => by
      rw [hframe.devices]
      exact h.waited p hp }

theorem Inv.withHc {s : State} (h : Inv s) (d : Nat) (hc : Bool) : Inv (s.withHc d hc) :=
  h.changeDevice d fun dv => ⟨hc, dv.session, rfl⟩

theorem Inv.withSession {s : State} (h : Inv s) (d : Nat) (se : Session) : Inv (s.withSession d se) :=
  h.changeDevice d fun dv => ⟨dv.hc, se, rfl⟩

/-- Whatever a step of a client does, it keeps the invariant. -/
theorem Effect.inv {init st : Bool} {s t : State} (h : Effect init st s t) (hi : Inv s) : Inv t := by
  cases h with
  | quiet h => exact hi.of_quiet h
  | engine op u b run h => exact ((drives_of_done run).inv hi).of_quiet h
  | blocked op u run h =>
    refine Inv.of_quiet ?_ h
    obtain ⟨dev, rfl⟩ | ⟨-, rfl⟩ := engineOp_blocked run
    · obtain ⟨hr, -, -, ⟨d, hd⟩, rfl⟩ := acquireOp_blocked.1 run
      exact hi.waiting hr (List.getElem?_eq_some_iff.1 hd).1
    · exact hi
  | lock u b run h =>
    obtain ⟨hr, rfl, -⟩ := busInitOp_done.1 run
    obtain ⟨-, -, hb⟩ := hi.noLock hr
    refine Inv.of_quiet ?_ h
    exact { hi with
      noLock := fun hn => Bool.noConfusion hn
      inFlight := fun hbusy => Bool.noConfusion (hb.symm.trans hbusy)
      programmed := fun hn => Bool.noConfusion hn
      waiters := List.Pairwise.nil
      waited := fun p hp => absurd hp List.not_mem_nil }
  | store _ base bs u run h =>
    obtain rfl := State.writeBuffer_some run
    refine Inv.of_quiet ?_ h
    exact { hi with memory := Memory.wf_writeBytes _ _ hi.memory }
  | session _ d se h => exact (hi.withSession d se).of_quiet h
  | flag _ d h => exact (hi.withHc d true).of_quiet h
  | clear _ d h => exact ((hi.withHc d false).withSession d _).of_quiet h

/-! ### The invariant under the steps of the shifter -/

/-- One more event of a legal snapshot that is not the last one. -/
theorem Snap.Legal.sampled {p : Snap} (h : p.Legal) (m : Bool) (hlt : p.pos + 1 < p.mosi.length) :
    (p.sampled m).Legal where
  inside := .inl hlt
  length := h.length
  input := h.input
  phases := h.phases
  held := h.held
  kept := by
    have hk := h.kept
    show (if p.mosi.length - p.inLen ≤ p.pos then p.samples ++ [m] else p.samples).length =
      p.pos + 1 - (p.mosi.length - p.inLen)
    split
    · simp only [List.length_append, List.length_singleton]
      omega
    · omega
  groups := h.groups

/-- The clauses of the invariant that the shifter's frame keeps by itself. -/
theorem Inv.shifted {s t : State} (h : Inv s) (k : Shifted s t) (hpresent : t.engine.busy = t.snap.isSome)
    (hsnap : ∀ p, t.snap = some p → p.Legal ∧ t.xferInLen = some p.inLen)
    (hsize : t.engine.inBuf.length = 64)
    (hresult : ∀ n, t.xferInLen = some n → t.engine.busy = false →
      ∀ j, j < ceil8 n → ∃ b, t.engine.inBuf[j]? = some (some b)) : Inv t where
  memory := by rw [k.mem]; exact h.memory
  engine := by
    rw [k.fields]
    exact { h.engine with inSize := hsize }
  present := hpresent
  snapshot := hsnap
  xfer := by rw [k.xfer]; exact h.xfer
  result := hresult
  noLock := by
    rw [k.lock]
    intro hn
    obtain ⟨ho, hw, hb⟩ := h.noLock hn
    refine ⟨ho, hw, ?_⟩
    cases hb' : t.engine.busy
    · rfl
    · exact absurd (k.busy hb') (by simp [hb])
  inFlight := by
    rw [k.lock]
    exact fun hb => h.inFlight (k.busy hb)
  programmed := by rw [k.lock, k.latch]; exact h.programmed
  latch := by
    rw [k.latch]
    intro d hd
    refine (h.latch d hd).congr k.cfg k.latch k.demux k.cs fun dv hdv => ?_
    obtain ⟨w, ht, -⟩ := k.device d dv hdv
    exact ⟨dv.hc, dv.session, w, ht⟩
  selectors := by
    intro d dv hd
    obtain ⟨dv', hd', hdm⟩ := demux_of_devices k.count (fun d dv hdv => by
      obtain ⟨w, ht, -⟩ := k.device d dv hdv
      exact ⟨dv.hc, dv.session, w, ht⟩) hd
    rw [k.cfg]
    exact hdm ▸ h.selectors d dv' hd'
  pins := by rw [k.demux, k.cfg]; exact h.pins
  waiters := by rw [k.lock]; exact h.waiters
  waited := by rw [k.lock, k.count]; exact h.waited

theorem Inv.shifterStep {s : State} (h : Inv s) : Inv (shifterStep s) := by
  have hk := shifted_shifterStep s
  obtain ⟨-, heq⟩ | ⟨p, hp, hcase⟩ := shifterStep_cases s
  · rwa [heq]
  obtain ⟨hlegal, hxfer⟩ := h.snapshot p hp
  -- the end of the transaction, from any state with the same engine
  have hfinish (u : State) (q : Snap) (hu : u.engine = s.engine) (hlen : q.inLen = p.inLen) (hbe : q.inBe = p.inBe)
      (heq : Machine.shifterStep s = finishTransfer u q) : Inv (Machine.shifterStep s) := by
    have hsize : u.engine.inBuf.length = 64 := hu ▸ h.engine.inSize
    refine h.shifted hk (by rw [heq]; simp) (by rw [heq]; simp) (by rw [heq]; simpa using hsize) ?_
    intro n hn _ j hj
    rw [hk.xfer, hxfer] at hn
    cases hn
    rw [heq]
    exact finishTransfer_inBuf_defined (fun hq => hlen ▸ hlegal.groups (hbe ▸ hq)) hsize (hlen ▸ hlegal.input)
      (hlen ▸ hj)
  obtain ⟨-, heq⟩ | ⟨hlt, heq⟩ | ⟨-, heq⟩ := hcase
  · exact hfinish s p rfl rfl rfl heq
  · refine h.shifted hk ?_ ?_ ?_ ?_
    · rw [heq, clockEvent_engine, clockEvent_snap, h.present, hp]
      rfl
    · rw [heq]
      intro q hq
      rw [clockEvent_snap] at hq
      cases hq
      exact ⟨hlegal.sampled _ hlt, by rw [clockEvent_xferInLen]; exact hxfer⟩
    · rw [heq, clockEvent_engine]
      exact h.engine.inSize
    · rw [heq, clockEvent_engine, clockEvent_xferInLen]
      exact h.result
  · exact hfinish _ (p.sampled s.drawBit.1) (clockEvent_engine s p) rfl rfl heq

/-- Taking the turn, and being the client whose turn it is, are nothing to the invariant. -/
theorem Inv.turn {s : State} (h : Inv s) : Inv s.nextAgent.2 := by
  rw [State.nextAgent_eq]
  exact { h with }

theorem Inv.withCur {s : State} (h : Inv s) (c : Nat) : Inv (s.withCur c) := { h with }

/-- Settles O11: the shifter and every effect of a step of a client keep the invariant. -/
theorem stepKeepsTheInvariant : Obligations.StepKeepsTheInvariant := by
  unfold Obligations.StepKeepsTheInvariant
  intro s t hi ht
  obtain rfl | rfl | ⟨c, r, -, hr⟩ := step_cases ht
  · exact hi.turn.shifterStep
  · exact hi.turn
  · obtain ⟨init, he⟩ := hr.clientLeads.effect
    exact he.inv (hi.turn.withCur c)

end Sys2Proof.Machine

/-! PROOFS. The shifter's chip-select, acquire, power-on, and the step that runs what a client asks for. -/

namespace Sys2Proof.Machine

open Sys2Proof

/-! ### Hardware-timed chip-select (R221) -/

theorem shifterRun_succ (n : Nat) (s : State) : shifterRun (n + 1) s = shifterStep (shifterRun n s) := by
  induction n generalizing s with
  | zero => rfl
  | succ n ih => exact ih (shifterStep s)

/-- The transaction of `s`, whose snapshot is `p`, stands after its first `k` events in `t`: chip-select is asserted
from the first event on, and the device of the latch has been sent the first `k` bits. -/
structure HardwareTimed (s : State) (p : Snap) (k : Nat) (t : State) : Prop where
  snap : ∃ q, t.snap = some q ∧ q.mosi = p.mosi ∧ q.csMode = .hardware ∧ q.pos = k
  latch : t.latch = s.latch
  cs : 0 < k → t.lines.cs = some .asserted
  sent : ∀ d dv, s.latch.dev = some d → s.devices[d]? = some dv →
    t.devices[d]? = some { dv with wire := dv.wire ++ p.mosi.take k }

/-- One more event, and the bit it sends. -/
theorem HardwareTimed.clockEvent {s t : State} {p q : Snap} {k : Nat} (h : HardwareTimed s p k t)
    (hq : t.snap = some q) (hk : k < p.mosi.length) :
    (clockEvent t q).lines.cs = some .asserted ∧
    ∀ d dv, s.latch.dev = some d → s.devices[d]? = some dv →
      (clockEvent t q).devices[d]? = some { dv with wire := dv.wire ++ p.mosi.take (k + 1) } := by
  obtain ⟨q', hq', hmosi, hcm, hpos⟩ := h.snap
  cases hq.symm.trans hq'
  have hcs : (t.csBefore q).lines.cs = some .asserted := by
    rw [State.csBefore_cs]
    split
    · rfl
    · next hne => exact h.cs (Nat.pos_of_ne_zero fun h0 => hne ⟨hcm, hpos.trans h0⟩)
  refine ⟨by rw [clockEvent_cs, ← State.csBefore_cs]; exact hcs, fun d dv hd hdv => ?_⟩
  have hsel : (t.csBefore q).selected d = true := by
    rw [State.selected, hcs, State.csBefore_eq, State.withLines_latch, h.latch, hd]
    simp
  rw [clockEvent_device t q (h.sent d dv hd hdv), hsel, if_pos rfl, hmosi, hpos, List.getElem?_eq_getElem hk,
    Option.getD_some, List.append_assoc, List.take_append_getElem hk]

theorem hardwareTimed_shifterRun {s : State} {p : Snap} (hs : s.snap = some p) (hcm : p.csMode = .hardware)
    (h0 : p.pos = 0) (k : Nat) (hk : k < p.mosi.length) : HardwareTimed s p k (shifterRun k s) := by
  induction k with
  | zero =>
    exact ⟨⟨p, hs, rfl, hcm, h0⟩, rfl, fun h => absurd h (Nat.lt_irrefl 0), fun _ dv _ hdv => by simpa [shifterRun] using hdv⟩
  | succ k ih =>
    have hk' : k < p.mosi.length := by omega
    have h := ih hk'
    obtain ⟨q, hq, hmosi, hcm', hpos⟩ := h.snap
    obtain ⟨hcs, hsent⟩ := h.clockEvent hq hk'
    rw [shifterRun_succ, shifterStep_event hq (by rw [hpos, hmosi]; exact hk)]
    refine ⟨⟨_, clockEvent_snap _ q, hmosi, hcm', ?_⟩, (clockEvent_latch _ q).trans h.latch, fun _ => hcs, hsent⟩
    rw [← hpos]
    rfl

/-- After its last event the transaction is over, and chip-select is deasserted. -/
theorem shifterRun_all {s : State} {p : Snap} (hs : s.snap = some p) (hcm : p.csMode = .hardware) (h0 : p.pos = 0)
    (hlen : 0 < p.mosi.length) : (shifterRun p.mosi.length s).lines.cs = some .deasserted ∧
    ∀ d dv, s.latch.dev = some d → s.devices[d]? = some dv →
      (shifterRun p.mosi.length s).devices[d]? = some { dv with wire := dv.wire ++ p.mosi } := by
  obtain ⟨n, hn⟩ : ∃ n, p.mosi.length = n + 1 := ⟨p.mosi.length - 1, by omega⟩
  have h := hardwareTimed_shifterRun hs hcm h0 n (by omega)
  obtain ⟨q, hq, hmosi, hcm', hpos⟩ := h.snap
  obtain ⟨-, hsent⟩ := h.clockEvent hq (by omega)
  have hne : p.mosi ≠ [] := List.ne_nil_of_length_pos hlen
  rw [hn, shifterRun_succ, shifterStep_last hq (by rw [hpos, hmosi, hn])]
  refine ⟨?_, fun d dv hd hdv => ?_⟩
  · rw [finishTransfer_cs]
    exact if_pos ⟨hcm', by rw [← hmosi] at hne; exact hne⟩
  · rw [finishTransfer_devices, hsent d dv hd hdv, ← hn, List.take_length]

theorem shifterStep_cs_software {s : State} {p : Snap} (hs : s.snap = some p) (hcm : p.csMode = .software) :
    (shifterStep s).lines.cs = s.lines.cs := by
  obtain ⟨h, -⟩ | ⟨q, hq, ⟨-, h⟩ | ⟨-, h⟩ | ⟨-, h⟩⟩ := shifterStep_cases s
  · cases hs.symm.trans h
  all_goals
    cases hs.symm.trans hq
    simp [h, hcm, Snap.sampled]

/-- Settles O34: an induction over the events of the transaction. -/
theorem hardwareTimedChipSelect : Obligations.HardwareTimedChipSelect := by
  unfold Obligations.HardwareTimedChipSelect
  refine fun s p hs => ⟨fun _ hnil => ?empty, fun hcm h0 hlen => ⟨fun k hk hlt => ?during, ?after, ?sent⟩,
    shifterStep_cs_software hs⟩
  case empty =>
    rw [shifterStep_over hs (by simp [hnil])]
    simp [hnil]
  case during => exact (hardwareTimed_shifterRun hs hcm h0 k hlt).cs hk
  case after => exact (shifterRun_all hs hcm h0 hlen).1
  case sent =>
    intro k d dv hk hd hdv
    rcases Nat.lt_or_eq_of_le hk with hlt | rfl
    · exact (hardwareTimed_shifterRun hs hcm h0 k hlt).sent d dv hd hdv
    · rw [List.take_length]
      exact (shifterRun_all hs hcm h0 hlen).2 d dv hd hdv

/-! ### acquire (R202, R203) -/

section

variable {c dev : Nat} {s : State} {d : Device}

theorem acquireOp_free (hr : s.lock.ready = true) (hf : s.lock.owner = none) (hd : s.devices[dev]? = some d) :
    acquireOp c dev s = .done (grant c dev d s) none :=
  acquireOp_done.2 ⟨hr, hf, d, hd, rfl, rfl⟩

/-- The bus is owned, and the call is not refused for BUSY = 1: the client is put among the waiters. -/
theorem acquireOp_waits {o : Nat} (hr : s.lock.ready = true) (ho : s.lock.owner = some o)
    (hd : s.devices[dev]? = some d) (hb : busyRefused c dev s = false) :
    acquireOp c dev s = .blocked (s.withLock { s.lock with waiters := insertWaiter (c, dev) s.lock.waiters }) :=
  acquireOp_blocked.2 ⟨hr, by simp [ho], hb, ⟨d, hd⟩, rfl⟩

theorem acquireOp_busy {o : Nat} (hr : s.lock.ready = true) (ho : s.lock.owner = some o)
    (hd : s.devices[dev]? = some d) (hb : busyRefused c dev s = true) : acquireOp c dev s = .refuse .busy := by
  simp [acquireOp, hr, ho, hd, hb]

theorem acquireOp_noLock (hr : s.lock.ready = false) : acquireOp c dev s = .refuse .noLock := by
  simp [acquireOp, hr]

theorem acquireOp_range (hr : s.lock.ready = true) (hd : s.devices.length ≤ dev) :
    acquireOp c dev s = .refuse .range := by
  simp [acquireOp, hr, hd]

/-- The owner's own call waits, as another's does, while no transaction is in flight; while one is, a new call of
another client waits or is refused as the free constant has it (log entry 11). -/
theorem acquireOp_contended {o : Nat} (hr : s.lock.ready = true) (ho : s.lock.owner = some o)
    (hd : s.devices[dev]? = some d) (hb : s.engine.busy = true) (hne : o ≠ c) (hw : (c, dev) ∉ s.lock.waiters) :
    acquireOp c dev s = if Config.busyAcquireWaits
      then .blocked (s.withLock { s.lock with waiters := insertWaiter (c, dev) s.lock.waiters })
      else .refuse .busy := by
  have hrefused := busyRefused_other (c := c) (dev := dev) hb (by simpa [ho] using hne) hw
  cases hc : Config.busyAcquireWaits <;> rw [hc] at hrefused
  · exact acquireOp_busy hr ho hd hrefused
  · exact acquireOp_waits hr ho hd hrefused

end

/-- A client that asks for the bus by itself. -/
theorem exec_acquire (dev : Nat) (s : State) : exec (.acquire dev) s = (acquireOp s.cur dev s).request := rfl

/-- Settles O21: the cases of `acquireOp`, and the waiters as a set. -/
theorem acquireTakesTheBusOrWaits : Obligations.AcquireTakesTheBusOrWaits := by
  unfold Obligations.AcquireTakesTheBusOrWaits
  refine ⟨fun s dev => ⟨?free, ?selector, ?owned, ?owner, ?noLock, ?range⟩,
    fun p q l => ⟨insertWaiter_mem, removeWaiter_mem⟩⟩
  case free =>
    intro d hr hf hd
    exact ⟨grant s.cur dev d s, congrArg Flow.request (acquireOp_free hr hf hd), rfl, rfl, rfl, rfl⟩
  case selector => exact fun d _ => ⟨s.selector_lt d, Nat.mod_eq_of_lt⟩
  case owned =>
    intro d o hr ho hd
    refine ⟨fun h => congrArg Flow.request (acquireOp_waits hr ho hd ?_), fun hb hne hw => ?_⟩
    · rcases h with hb | ⟨hne, hw⟩
      · exact busyRefused_idle hb
      · exact busyRefused_waiting (by simpa [ho] using hne) hw
    · rw [exec_acquire, acquireOp_contended hr ho hd hb hne hw, apply_ite Flow.request]
      rfl
  case owner =>
    exact fun d hr ho hb hd => congrArg Flow.request (acquireOp_busy hr ho hd (busyRefused_owner hb ho))
  case noLock => exact fun hr => congrArg Flow.request (acquireOp_noLock hr)
  case range => exact fun hr hd => congrArg Flow.request (acquireOp_range hr hd)

/-! ### Power-on (R62) -/

/-- Settles O9: the values of `State.reset`. -/
theorem powerOnState : Obligations.PowerOnState := by
  unfold Obligations.PowerOnState
  refine ⟨rfl, rfl, rfl, rfl, ⟨rfl, rfl, rfl, rfl, rfl, rfl, rfl, rfl, rfl, rfl, rfl, rfl, rfl, rfl⟩, rfl, rfl, rfl,
    ?sessions, ?clients⟩
  case sessions => simp [State.reset, Device.reset]
  case clients => simp [State.reset, Client.reset]

theorem reset_clients_idle {c : Nat} {cl : Client} (h : State.reset.clients[c]? = some cl) : cl.ctx = none := by
  obtain rfl : cl = Client.reset := by simpa [State.reset] using List.mem_of_getElem? h
  rfl

theorem reset_inv : Inv State.reset where
  memory := rfl
  engine := by constructor <;> simp [State.reset, Engine.reset]
  present := rfl
  snapshot := by simp [State.reset]
  xfer := by simp [State.reset]
  result := by simp [State.reset]
  noLock := fun _ => ⟨rfl, rfl, rfl⟩
  inFlight := by simp [State.reset, Engine.reset]
  programmed := by simp [State.reset]
  latch := by simp [State.reset]
  selectors := by
    intro d dv hd
    have hmem := List.mem_of_getElem? hd
    simp only [State.reset, List.mem_cons, List.not_mem_nil, or_false] at hmem ⊢
    rcases hmem with rfl | rfl <;> simp [Device.reset]
  pins := by simp [State.reset]
  waiters := List.Pairwise.nil
  waited := by simp [State.reset]

/-- Settles O10: at power-on nothing is owned, no client runs an operation, and every session is UNINITIALIZED. -/
theorem resetMeetsTheInvariants : Obligations.ResetMeetsTheInvariants := by
  unfold Obligations.ResetMeetsTheInvariants
  refine ⟨reset_inv, ⟨fun _ => rfl, ?legal, ?owner⟩, ⟨?settled, ?running⟩⟩
  case legal =>
    intro c cl x hc hx
    cases hx.symm.trans (reset_clients_idle hc)
  case owner =>
    intro c cl x hc hx
    cases hx.symm.trans (reset_clients_idle hc)
  case settled =>
    intro d dv hd
    have hmem := List.mem_of_getElem? hd
    simp only [State.reset, List.mem_cons, List.not_mem_nil, or_false] at hmem
    rcases hmem with rfl | rfl <;> trivial
  case running =>
    intro c cl x d dv hc hx
    cases hx.symm.trans (reset_clients_idle hc)

end Sys2Proof.Machine

/-! PROOFS. The decoder reads every encoding back, and a step runs what its client asks for (O8). -/

namespace Sys2Proof

/-! ### Requests -/

/-- A pattern of `w` bits in as many bytes is read back. -/
theorem operand_toNat {w n : Nat} (v : BitVec w) (rest : List Byte) (hw : 2 ^ w ≤ 256 ^ n) :
    operand n (2 ^ w) (bytesLE n v.toNat ++ rest) = .ok (v.toNat, rest) :=
  operand_bytesLE rest v.isLt hw

theorem operand32_toNat (v : BitVec 32) (rest : List Byte) :
    operand32 (bytesLE 4 v.toNat ++ rest) = .ok (v.toNat, rest) := operand_toNat v rest (by decide)

/-- A flag takes one byte. -/
theorem operand_flag (b : Bool) (rest : List Byte) : operand 1 2 (bytesLE 1 b.toNat ++ rest) = .ok (b.toNat, rest) :=
  operand_bytesLE rest b.toNat_lt (by decide)

theorem ok_bind {α β : Type} (a : α) (k : α → Except DecodeError β) : (Except.ok a >>= k) = k a := rfl

/-- A request is read back from its OPC and its operands (R120, R121). -/
theorem decodeRequest_encode (i : Instr) (rest : List Byte) (hp : portOf i = .request) (h : i.wellFormed = true) :
    decodeRequest (encode i ++ rest) = .ok (i, rest) := by
  cases i
  case busInit | release | csAssert | csDeassert | reset | execute | wait => rfl
  case setClock word =>
    simp [encode, decodeRequest, decodeOperands, operand32_toNat, ok_bind]
  case acquire | readResult | sdInitialize | sdRead | sdWrite | sdErase | sdReadCid | sdReadCsd | status | upInitialize
      | upRead | upWrite | blockCount | sectorSize | eraseGranularity =>
    simp only [Instr.wellFormed, Bool.and_eq_true] at h
    simp [encode, decodeRequest, decodeOperands, operand32_bytesLE, ok_bind, h]
  case setCommand len value =>
    have hlen : len < 32 := by simpa [Instr.wellFormed] using h
    have hv : value.toNat < 65536 := value.isLt
    simp [encode, decodeRequest, decodeOperands, operand_bytesLE, ok_bind, hlen, hv]
  case setAddress len value =>
    have hlen : len < 64 := by simpa [Instr.wellFormed] using h
    simp [encode, decodeRequest, decodeOperands, operand_bytesLE, operand32_toNat, ok_bind, hlen]
  case setOutput len bytes =>
    obtain ⟨hlen, hb⟩ : len < 1024 ∧ fits32 bytes = true := by simpa [Instr.wellFormed] using h
    simp [encode, decodeRequest, decodeOperands, operand_bytesLE, operand32_bytesLE, ok_bind, hlen, hb]
  case setOutputPattern len word =>
    have hlen : len < 1024 := by simpa [Instr.wellFormed] using h
    simp [encode, decodeRequest, decodeOperands, operand_bytesLE, operand32_toNat, ok_bind, hlen]
  case configureExec beo dummy recv bei =>
    obtain ⟨hd, hr⟩ : dummy < 512 ∧ recv < 1024 := by simpa [Instr.wellFormed] using h
    simp [encode, decodeRequest, decodeOperands, operand_bytesLE, operand_flag, ok_bind, hd, hr]
  all_goals cases hp

/-! ### Frames (R123, R126, R131) -/

/-- A frame is read back: its index and argument are those of the row (R131, R132). -/
theorem decodeFrame_encode (i : Instr) (rest : List Byte) (hp : portOf i = .frame) :
    decodeFrame (encode i ++ rest) = .ok (i, rest) := by
  cases i
  case cmd0GoIdleState | cmd1SendOpCond | cmd8SendIfCond | cmd9SendCsd | cmd10SendCid | cmd12StopTransmission
      | cmd16SetBlocklen | cmd38Erase | cmd55AppCmd | cmd58ReadOcr | acmd41SdV2Hcs | acmd41SdV1 =>
    exact decodeFrame_frameBytes _ _ _ rest rfl
  case cmd17ReadSingleBlock a | cmd18ReadMultipleBlock a | cmd24WriteBlock a | cmd25WriteMultipleBlock a
      | cmd32EraseWrBlkStart a | cmd33EraseWrBlkEnd a | acmd23SetWrBlkEraseCount a =>
    exact decodeFrame_frameBytes _ a _ rest (by simp [instrOfFrame])
  all_goals cases hp

/-! ### Responses and tokens (R127 to R129, R134, R136) -/

/-- A status byte is one whose bit 7 is 0, and its other bits are the status (R127). -/
theorem statusByte_fields (st : BitVec 7) :
    (0#1 ++ st : Byte).getLsbD 7 = false ∧ (0#1 ++ st : Byte).extractLsb' 0 7 = st := by
  revert st
  decide

/-- The two nibbles of a data-response token (R136). -/
theorem nibbles (hi lo : BitVec 4) :
    (hi ++ lo : Byte).extractLsb' 4 4 = hi ∧ (hi ++ lo : Byte).extractLsb' 0 4 = lo := by
  revert hi lo
  decide

/-- The two fields of the 32 bits behind the status of SEND_IF_COND (R129). -/
theorem echo_fields (x : BitVec 20) (e : BitVec 12) :
    (x ++ e : BitVec 32).extractLsb' 12 20 = x ∧ (x ++ e : BitVec 32).extractLsb' 0 12 = e :=
  ⟨BitVec.extractLsb'_append_eq_left, BitVec.extractLsb'_append_eq_right⟩

theorem decodeResponse_r1 (st : BitVec 7) (rest : List Byte) :
    decodeResponse .r1 (encode (.r1Status st) ++ rest) = .ok (.r1Status st, rest) := by
  obtain ⟨h7, hst⟩ := statusByte_fields st
  simp only [encode, List.cons_append, List.nil_append, decodeResponse, h7, hst]
  rfl

theorem decodeResponse_r3 (st : BitVec 7) (o : BitVec 32) (rest : List Byte) :
    decodeResponse .r3 (encode (.r3StatusOcr st o) ++ rest) = .ok (.r3StatusOcr st o, rest) := by
  obtain ⟨h7, hst⟩ := statusByte_fields st
  simp only [encode, bytesBE32, List.cons_append, List.nil_append, decodeResponse, h7, hst, be32_bytes]
  rfl

theorem decodeResponse_r7 (st : BitVec 7) (x : BitVec 20) (e : BitVec 12) (rest : List Byte) :
    decodeResponse .r7 (encode (.r7StatusEcho st x e) ++ rest) = .ok (.r7StatusEcho st x e, rest) := by
  obtain ⟨h7, hst⟩ := statusByte_fields st
  obtain ⟨hx, he⟩ := echo_fields x e
  simp only [encode, bytesBE32, List.cons_append, List.nil_append, decodeResponse, h7, hst, be32_bytes, hx, he]
  rfl

theorem decodeDataResponse_accepted (hi : BitVec 4) (rest : List Byte) :
    decodeDataResponse (encode (.dataResponseAccepted hi) ++ rest) = .ok (.dataResponseAccepted hi, rest) := by
  obtain ⟨hhi, hlo⟩ := nibbles hi 5#4
  simp only [encode, List.cons_append, List.nil_append, decodeDataResponse, hhi, hlo, if_true]

theorem decodeDataResponse_rejected (hi lo : BitVec 4) (rest : List Byte) (hne : lo ≠ 5#4) :
    decodeDataResponse (encode (.dataResponseRejected hi lo) ++ rest) = .ok (.dataResponseRejected hi lo, rest) := by
  obtain ⟨hhi, hlo⟩ := nibbles hi lo
  simp only [encode, List.cons_append, List.nil_append, decodeDataResponse, hhi, hlo, if_neg hne]

/-- Decoding the encoding of a well-formed instruction at its port gives it back, whatever follows it. -/
theorem decodeAt_encode (i : Instr) (rest : List Byte) (h : i.wellFormed = true) :
    decodeAt (portOf i) (encode i ++ rest) = .ok (i, rest) := by
  cases hp : portOf i with
  | request => exact decodeRequest_encode i rest hp h
  | frame => exact decodeFrame_encode i rest hp
  | response kind =>
    cases i
    case r1Status st =>
      cases hp
      exact decodeResponse_r1 st rest
    case r3StatusOcr st o =>
      cases hp
      exact decodeResponse_r3 st o rest
    case r7StatusEcho st x e =>
      cases hp
      exact decodeResponse_r7 st x e rest
    all_goals cases hp
  | token =>
    cases i
    case fillerNotBusy | dataStartToken | multiBlockWriteStartToken | multiBlockStopToken => rfl
    all_goals cases hp
  | dataResponse =>
    cases i
    case dataResponseAccepted hi => exact decodeDataResponse_accepted hi rest
    case dataResponseRejected hi lo =>
      exact decodeDataResponse_rejected hi lo rest (by simpa [Instr.wellFormed] using h)
    all_goals cases hp

/-- The call of a well-formed instruction spells that instruction. -/
theorem decodeCall_callOf (i : Instr) (h : i.wellFormed = true) : decodeCall (callOf i) = .ok i := by
  have hd := decodeAt_encode i [] h
  rw [List.append_nil] at hd
  simp [decodeCall, callOf, hd]

end Sys2Proof

namespace Sys2Proof.Machine

open Sys2Proof

/-! ### The step of a client whose turn it is (R31) -/

theorem step_client {s s' : State} {c : Nat} (ht : s.nextAgent = (.client c, s')) : step s = clientStep c s' := by
  simp [step, ht]

theorem step_shifter {s s' : State} (ht : s.nextAgent = (.shifter, s')) : step s = .next (shifterStep s') := by
  simp [step, ht]

theorem clientStep_encoded {s : State} {c : Nat} {call : Call} {i : Instr}
    (hc : s.pendingCall c = some (.encoded call)) (hi : decodeCall call = .ok i) :
    clientStep c s = exec i (s.withCur c) := by
  simp [clientStep, hc, hi]

theorem clientStep_pseudo {s : State} {c : Nat} {op : PseudoOp} (hc : s.pendingCall c = some (.pseudo op)) :
    clientStep c s = execPseudo op (s.withCur c) := by
  simp [clientStep, hc]

/-- A placed call gives its client the turn, and taking the turn restores the environment's answers. -/
theorem nextAgent_withCall (s : State) (call : Call) :
    (s.withCall call).nextAgent = (.client 0, s.withClients (placeCall call s.clients)) := rfl

theorem pendingCall_placed (s : State) (call : Call) :
    (s.withClients (placeCall call s.clients)).pendingCall 0 = some (.encoded call) := by
  unfold State.pendingCall placeCall
  cases s.clients <;> rfl

/-- Settles O8: the cases of `step` and `clientStep`, and the decoder reads an encoding back. -/
theorem stepRunsTheDecodedInstruction : Obligations.StepRunsTheDecodedInstruction := by
  unfold Obligations.StepRunsTheDecodedInstruction
  refine ⟨fun s s' c call i ht hc hi => ?_, fun s s' c op ht hc => ?_, fun s s' ht => step_shifter ht,
    fun s i hi => ?_⟩
  · rw [step_client ht, clientStep_encoded hc hi]
  · rw [step_client ht, clientStep_pseudo hc]
  · rw [step_client (nextAgent_withCall s _), clientStep_encoded (pendingCall_placed s _) (decodeCall_callOf i hi)]

end Sys2Proof.Machine

/-! PROOFS. What a step does to the context of its client: the primitives (`Ctx.Goes`), the engine operations and the
programs; and that operations hold the bus (O12). -/

namespace Sys2Proof.Machine

open Sys2Proof

/-! ### The context after a step -/

/-- The context that `withCtx` gives, if the client exists. -/
theorem State.withCtx_ctx_eq {s : State} {x y : Ctx} (h : (s.withCtx x).ctx = some y) : y = x := by
  rw [State.withCtx_ctx, Option.map_eq_some_iff] at h
  obtain ⟨_, -, rfl⟩ := h
  rfl

theorem State.withCtx_pendingCall (s : State) (x : Ctx) (c : Nat) :
    (s.withCtx x).pendingCall c = s.pendingCall c := by
  unfold State.pendingCall
  rw [State.withCtx_clients]
  by_cases hc : c = s.cur
  · rw [hc, changeAt_same]
    cases s.clients[s.cur]? <;> rfl
  · rw [changeAt_other _ _ hc]

theorem State.pendingCall_congr {s u : State} (h : u.clients = s.clients) (c : Nat) :
    u.pendingCall c = s.pendingCall c := by
  unfold State.pendingCall
  rw [h]

/-- The bus lock is left alone, and if the client has a context afterwards, its call goes on and the context has
property `P`. -/
def Keeps (P : Ctx → Prop) (s : State) (o : Outcome) : Prop :=
  AllNext (fun t => t.lock = s.lock ∧ t.cur = s.cur ∧
    ∀ x, t.ctx = some x → P x ∧ t.pendingCall s.cur = s.pendingCall s.cur) o

section

variable {P Q : Ctx → Prop} {s u : State} {x : Ctx}

theorem keeps_refused {r : Refusal} : Keeps P s (.refused r) := allNext_refused

theorem keeps_goOn_of (hl : u.lock = s.lock) (hc : u.cur = s.cur) (hcl : u.clients = s.clients) (hx : P x) :
    Keeps P s (u.goOn x) :=
  allNext_goOn.2 ⟨hl, hc, fun _ hy => ⟨State.withCtx_ctx_eq hy ▸ hx,
    (u.withCtx_pendingCall x _).trans (State.pendingCall_congr hcl _)⟩⟩

theorem keeps_goOn (hx : P x) : Keeps P s (s.goOn x) := keeps_goOn_of rfl rfl rfl hx

theorem keeps_now_goOn (hx : P x) : Keeps P s (s.now.2.goOn x) :=
  keeps_goOn_of (by simp) (by simp) (by simp) hx

theorem keeps_complete_of (hl : u.lock = s.lock) (hc : u.cur = s.cur) {r : Result} :
    Keeps P s (.next (u.complete r)) :=
  allNext_next.2 ⟨hl, hc, fun _ hy => by simp at hy⟩

theorem keeps_complete {r : Result} : Keeps P s (.next (s.complete r)) := keeps_complete_of rfl rfl

theorem keeps_ite {c : Prop} [Decidable c] {a b : Outcome} (ha : Keeps P s a) (hb : Keeps P s b) :
    Keeps P s (if c then a else b) := allNext_ite ha hb

theorem Keeps.imp {o : Outcome} (h : Keeps P s o) (hPQ : ∀ x, P x → Q x) : Keeps Q s o := by
  intro t ht
  obtain ⟨hl, hc, hx⟩ := h t ht
  exact ⟨hl, hc, fun y hy => (hx y hy).imp_left (hPQ y)⟩

end

/-! ### Legal contexts -/

/-- Groups of engine operations that neither take nor free the bus. -/
theorem xferIn_plain (n : Nat) : ∀ op ∈ xferIn n, op.plain = true := by simp [xferIn, EngineOp.plain]

theorem xferOut_plain (bs : List Byte) : ∀ op ∈ xferOut bs, op.plain = true := by simp [xferOut, EngineOp.plain]

theorem frameOps_plain (c : Command) : ∀ op ∈ frameOps c, op.plain = true := by simp [frameOps, EngineOp.plain]

theorem wakeOps_plain : ∀ op ∈ wakeOps, op.plain = true := by simp [wakeOps, EngineOp.plain]

/-- A context whose engine operations neither take nor free the bus. -/
theorem Ctx.Legal.of_plain {x : Ctx} (hm : ∀ op ∈ x.micro, op.plain = true)
    (hexit : ∀ r, x.pc = .leaving r → x.phase = .group ∨ ∃ p, x.phase = .done p) (hcrc : x.pc ≠ .leaving .crcError)
    (hstore : x.pc = .pseudo ∨ x.pc = .pseudoAppCmd → ¬ x.storing) : x.Legal where
  first := fun _ hd => Bool.noConfusion (hm _ hd)
  last := fun hr => Bool.noConfusion (hm _ hr)
  exit := hexit
  noCrc := hcrc
  noStore := fun hpc base off left hp => hstore hpc ⟨base, off, left, hp⟩

theorem not_storing_group {x : Ctx} (h : x.phase = .group) : ¬ x.storing := by
  rintro ⟨base, off, left, hp⟩
  simp [h] at hp

theorem legal_goto (x : Ctx) {pc : SeqPc} (hpc : ∀ r, pc ≠ .leaving r) : (x.goto pc).Legal :=
  .of_plain (fun _ hop => absurd hop List.not_mem_nil) (fun r h => absurd h (hpc r)) (hpc _)
    fun _ => Ctx.not_storing_of_ready rfl

theorem legal_engine (x : Ctx) {pc : SeqPc} {ops : List EngineOp} (hpc : ∀ r, pc ≠ .leaving r)
    (hm : ∀ op ∈ ops, op.plain = true) : (x.engine pc ops).Legal :=
  .of_plain hm (fun _ _ => .inl rfl) (hpc _) fun _ => not_storing_group rfl

/-- A context that leaves by engine operations of which the last one, and no other, frees the bus. -/
theorem legal_leave (x : Ctx) {r : Res} {ops : List EngineOp} (hr : r ≠ .crcError)
    (hm : ∀ op ∈ ops, op.plain = true) : (x.leave r (ops ++ [.release])).Legal where
  first := by
    intro d hd
    rcases List.mem_append.1 hd with h | h
    · exact Bool.noConfusion (hm _ h)
    · simp at h
  last := fun _ => ⟨⟨r, rfl⟩, ops, rfl, fun h => Bool.noConfusion (hm _ h)⟩
  exit := fun _ _ => .inl rfl
  noCrc := fun h => hr (SeqPc.leaving.inj h)
  noStore := nofun

theorem legal_endOps (x : Ctx) {r : Res} (hr : r ≠ .crcError) : (x.leave r endOps).Legal :=
  legal_leave x (ops := [.csDeassert]) hr (by simp [EngineOp.plain])

theorem legal_exitOps (x : Ctx) (d : Device) {r : Res} (hr : r ≠ .crcError) : (x.leave r (exitOps d)).Legal :=
  legal_leave x (ops := [.setClock d.clock, .csDeassert]) hr (by simp [EngineOp.plain])

theorem ErrKind.res_ne_crcError (e : ErrKind) : e.res ≠ .crcError := by cases e <;> simp [ErrKind.res]

/-- An operation begins with the `acquire` of its device alone. -/
theorem legal_opening (dev : Nat) {pc : SeqPc} (claim : Option (Nat × Nat))
    (hpc : pc = .i0Acquire ∨ pc = .beginOp) : (opening dev pc claim).Legal where
  first := by
    intro d hd
    cases List.mem_singleton.1 hd
    exact ⟨rfl, rfl⟩
  last := fun h => nomatch List.mem_singleton.1 h
  exit := fun _ _ => .inl rfl
  noCrc := by
    intro h
    rcases hpc with rfl | rfl <;> cases h
  noStore := nofun

theorem legal_start {pc : SeqPc} (claim : Option (Nat × Nat)) (hpc : ∀ r, pc ≠ .leaving r) :
    (Ctx.start pc claim).Legal :=
  .of_plain (fun _ hop => absurd hop List.not_mem_nil) (fun r h => absurd h (hpc r)) (hpc _)
    fun _ => Ctx.not_storing_of_ready rfl

/-- A legal context that is in the middle of something is not one that leaves. -/
theorem Ctx.Legal.not_leaving {x : Ctx} (h : x.Legal) (hg : x.phase ≠ .group) (hd : ∀ p, x.phase ≠ .done p)
    (r : Res) : x.pc ≠ .leaving r := by
  intro hpc
  rcases h.exit r hpc with hp | ⟨p, hp⟩
  · exact hg hp
  · exact hd p hp

theorem Ctx.Legal.not_leaving_of_ready {x : Ctx} (h : x.Legal) (hr : x.phase = .ready) (r : Res) :
    x.pc ≠ .leaving r := h.not_leaving (by simp [hr]) (by simp [hr]) r

/-! ### What a primitive does to the context -/

/-- What a primitive makes of the context of its client: the program stays where it is, and a stream into caller memory
does not begin by itself. -/
structure Ctx.Goes (x x' : Ctx) : Prop where
  pc : x'.pc = x.pc
  cand : x'.cand = x.cand
  micro : ∀ op ∈ x'.micro, op.plain = true
  begun : x'.phase ≠ .ready
  stores : x'.storing → x.storing

/-- Where a program does not leave, a primitive keeps its context legal. -/
theorem Ctx.Goes.legal {x x' : Ctx} (h : x.Goes x') (hx : x.Legal) (hpc : ∀ r, x.pc ≠ .leaving r) : x'.Legal :=
  .of_plain h.micro (fun r hr => absurd (h.pc ▸ hr) (hpc r)) (h.pc ▸ hpc _) fun hp hs => by
    obtain ⟨base, off, left, hph⟩ := h.stores hs
    exact hx.noStore (h.pc ▸ hp) base off left hph

theorem goes_finish (x : Ctx) (r : PrimResult) : x.Goes (x.finish r) :=
  ⟨rfl, rfl, fun _ hop => absurd hop List.not_mem_nil, nofun,
    fun h => absurd h (Ctx.not_storing_of_done rfl)⟩

/-- The same phase goes on with another byte. -/
theorem goes_again {x : Ctx} (hx : x.phase ≠ .ready) (n : Nat) : x.Goes { x with micro := xferIn n } :=
  ⟨rfl, rfl, xferIn_plain n, hx, id⟩

/-- A primitive begins a phase that is no stream of received bytes. -/
theorem goes_phase {x x' : Ctx} {ph : Phase} (hpc : x'.pc = x.pc) (hcand : x'.cand = x.cand) (hph : x'.phase = ph)
    (hm : ∀ op ∈ x'.micro, op.plain = true) (hr : ph ≠ .ready) (hs : ∀ dst off left, ph ≠ .streamIn dst off left) :
    x.Goes x' :=
  ⟨hpc, hcand, hm, hph ▸ hr, fun ⟨base, off, left, h⟩ => absurd (hph ▸ h) (hs (.memory base) off left)⟩

section

variable (s : State) (x : Ctx)

theorem keeps_startPoll {ph : Phase} (limit : Nat) (hr : ph ≠ .ready)
    (hs : ∀ dst off left, ph ≠ .streamIn dst off left) :
    Keeps x.Goes s (startPoll s x ph limit) :=
  keeps_now_goOn (goes_phase rfl rfl rfl (xferIn_plain 1) hr hs)

theorem keeps_startPollBusy (f : Bool) (limit : Nat) : Keeps x.Goes s (startPollBusy s x f limit) :=
  keeps_startPoll s x limit nofun nofun

theorem keeps_startPollToken (limit : Nat) : Keeps x.Goes s (startPollToken s x limit) :=
  keeps_startPoll s x limit nofun nofun

theorem keeps_startCommand (c : Command) : Keeps x.Goes s (startCommand s x c) :=
  keeps_now_goOn (goes_phase rfl rfl rfl (xferIn_plain 1) nofun nofun)

theorem keeps_startDataResponse : Keeps x.Goes s (startDataResponse s x) :=
  keeps_goOn (goes_phase rfl rfl rfl (xferIn_plain 1) nofun nofun)

theorem keeps_startXferOut (bs : List Byte) : Keeps x.Goes s (startXferOut s x bs) :=
  keeps_goOn (goes_phase rfl rfl rfl (xferOut_plain bs) nofun nofun)

theorem keeps_sendChunk (base off left : Nat) : Keeps x.Goes s (sendChunk s x base off left) := by
  simp only [sendChunk]
  split
  · exact keeps_refused
  · exact keeps_goOn (goes_phase rfl rfl rfl (xferOut_plain _) nofun nofun)

variable {x}

theorem keeps_pollAgain (hx : x.phase ≠ .ready) : Keeps x.Goes s (pollAgain s x) := by
  unfold pollAgain
  split
  · refine keeps_now_goOn ?_
    split
    · exact goes_finish x _
    · exact goes_again hx 1
  · exact keeps_refused
  · exact keeps_refused

theorem keeps_notBusy (f : Bool) : Keeps x.Goes s (notBusy s x f) := by
  unfold notBusy
  split
  · split
    · exact keeps_refused
    · exact keeps_goOn (goes_phase rfl rfl rfl (frameOps_plain _) nofun nofun)
  · exact keeps_goOn (goes_finish x _)

theorem keeps_windowMiss (n : Nat) : Keeps x.Goes s (windowMiss s x n) := by
  refine keeps_goOn ?_
  split
  · exact goes_finish x _
  · exact goes_phase rfl rfl rfl (xferIn_plain 1) nofun nofun

theorem keeps_takeStatus (r1 : Byte) : Keeps x.Goes s (takeStatus s x r1) := by
  unfold takeStatus
  split
  · exact keeps_refused
  · refine keeps_goOn ?_
    split
    · exact goes_phase rfl rfl rfl (fun _ hop => absurd hop List.not_mem_nil) nofun nofun
    · exact goes_phase rfl rfl rfl (xferIn_plain 4) nofun nofun

theorem keeps_takeExtended (r1 : Byte) (e : BitVec 32) : Keeps x.Goes s (takeExtended s x r1 e) :=
  keeps_goOn (goes_phase rfl rfl rfl (fun _ hop => absurd hop List.not_mem_nil) nofun nofun)

theorem keeps_finish (r : PrimResult) : Keeps x.Goes s (s.goOn (x.finish r)) := keeps_goOn (goes_finish x r)

theorem keeps_chunkOut (base off left : Nat) : Keeps x.Goes s (chunkOut s x base off left) :=
  keeps_ite (keeps_finish s _) (keeps_sendChunk s x base off left)

/-- What `storeAt` does: caller memory or the local image is written, and nothing else. -/
theorem storeAt_some {s u : State} {x y : Ctx} {dst : Dest} {off : Nat} {bs : List Byte}
    (h : storeAt s x dst off bs = some (u, y)) :
    u.lock = s.lock ∧ u.cur = s.cur ∧ u.clients = s.clients ∧ y.pc = x.pc ∧ y.cand = x.cand := by
  unfold storeAt at h
  split at h
  · obtain ⟨v, hv, he⟩ := Option.map_eq_some_iff.1 h
    cases he
    rw [State.writeBuffer_some hv]
    exact ⟨rfl, rfl, rfl, rfl, rfl⟩
  · cases h
    exact ⟨rfl, rfl, rfl, rfl, rfl⟩
  · cases h
    exact ⟨rfl, rfl, rfl, rfl, rfl⟩

theorem keeps_chunkIn {dst : Dest} {off left : Nat} (hx : x.phase = .streamIn dst off left) :
    Keeps x.Goes s (chunkIn s x dst off left) := by
  unfold chunkIn
  split
  · exact keeps_refused
  · next u y hu =>
    obtain ⟨hl, hc, hcl, hpc, hcand⟩ := storeAt_some hu
    refine keeps_goOn_of hl hc hcl ?_
    split
    · exact goes_phase hpc hcand rfl (fun _ hop => absurd hop List.not_mem_nil) nofun nofun
    · refine ⟨hpc, hcand, xferIn_plain _, nofun, ?_⟩
      rintro ⟨base, off', left', h⟩
      cases h
      exact ⟨base, off, left, hx⟩

/-! ### The rows a card's answer can be -/

theorem keeps_receiving {P : Ctx → Prop} {s : State} {x : Ctx} {k : Ctx → Outcome} (hx : s.ctx = some x)
    (h : x.micro = [] → Keeps P s (k x)) : Keeps P s (receiving s k) := by
  unfold receiving
  rw [hx]
  exact allNext_ite_of h keeps_refused

variable {s}

theorem keeps_execR1Status (hx : s.ctx = some x) (st : BitVec 7) : Keeps x.Goes s (execR1Status st s) := by
  refine keeps_receiving hx fun _ => ?_
  split
  · exact keeps_takeStatus s _
  · exact keeps_refused

theorem keeps_execR3StatusOcr (hx : s.ctx = some x) (st : BitVec 7) (o : BitVec 32) :
    Keeps x.Goes s (execR3StatusOcr st o s) := by
  refine keeps_receiving hx fun _ => ?_
  split
  · exact keeps_ite (keeps_takeExtended s _ _) keeps_refused
  · exact keeps_refused

theorem keeps_execR7StatusEcho (hx : s.ctx = some x) (st : BitVec 7) (hi : BitVec 20) (e : BitVec 12) :
    Keeps x.Goes s (execR7StatusEcho st hi e s) := by
  refine keeps_receiving hx fun _ => ?_
  split
  · exact keeps_ite (keeps_takeExtended s _ _) keeps_refused
  · exact keeps_refused

theorem keeps_execFillerNotBusy (hx : s.ctx = some x) : Keeps x.Goes s (execFillerNotBusy s) := by
  refine keeps_receiving hx fun _ => ?_
  split
  · exact keeps_notBusy s _
  · next hp => exact keeps_pollAgain s (by simp [hp])
  · exact keeps_windowMiss s _
  · exact keeps_finish s _
  · exact keeps_refused

theorem keeps_execDataResponseAccepted (hx : s.ctx = some x) (v : BitVec 4) :
    Keeps x.Goes s (execDataResponseAccepted v s) := by
  refine keeps_receiving hx fun _ => ?_
  split
  · exact keeps_finish s _
  · exact keeps_refused

theorem keeps_execDataResponseRejected (hx : s.ctx = some x) (v n : BitVec 4) :
    Keeps x.Goes s (execDataResponseRejected v n s) := by
  refine keeps_receiving hx fun _ => ?_
  split
  · exact keeps_finish s _
  · exact keeps_refused

theorem keeps_receiveToken {o : Outcome} (h : Keeps x.Goes s o) : Keeps x.Goes s (receiveToken s x o) := by
  unfold receiveToken
  split
  · next hp => exact keeps_pollAgain s (by simp [hp])
  · exact keeps_windowMiss s _
  · exact h
  · exact keeps_finish s _
  · exact keeps_refused

/-- A token row where no engine operation is left to do: it is sent, it ends a pseudo-operation, or it is read. -/
theorem keeps_tokenRow (hx : s.ctx = some x) (hm : x.micro = []) (tok : Byte) {k : State → Ctx → Outcome}
    (h : Keeps x.Goes s (k s x)) : Keeps x.Goes s (tokenRow tok k s) := by
  unfold tokenRow
  simp only [hx, hm]
  split
  · exact keeps_startXferOut s x _
  · exact keeps_ite keeps_complete keeps_refused
  · exact keeps_receiveToken h

theorem keeps_receivePoll (hx : s.ctx = some x) (hm : x.micro = []) (hp : x.phase ≠ .ready) :
    Keeps x.Goes s (receivePoll s x) := by
  unfold receivePoll
  split
  · exact keeps_execFillerNotBusy hx
  · exact keeps_tokenRow hx hm _ (keeps_finish s _)
  · exact keeps_tokenRow hx hm _ (keeps_finish s _)
  · exact keeps_tokenRow hx hm _ (keeps_finish s _)
  · unfold strayByte
    split
    · exact keeps_pollAgain s hp
    · exact keeps_finish s _

theorem keeps_receiveWindow (hx : s.ctx = some x) (n : Nat) : Keeps x.Goes s (receiveWindow s x n) := by
  unfold receiveWindow
  split
  · exact keeps_execR1Status hx _
  · exact keeps_windowMiss s _

theorem keeps_receiveExtended (hx : s.ctx = some x) : Keeps x.Goes s (receiveExtended s x) := by
  unfold receiveExtended
  split
  · split
    · exact keeps_execR3StatusOcr hx _ _
    · exact keeps_execR7StatusEcho hx _ _ _
    · exact keeps_refused
  · exact keeps_refused
  · exact keeps_refused

theorem keeps_receiveDataResponse (hx : s.ctx = some x) : Keeps x.Goes s (receiveDataResponse s x) := by
  unfold receiveDataResponse
  split
  · exact keeps_execDataResponseAccepted hx _
  · exact keeps_execDataResponseRejected hx _ _
  · exact keeps_refused

/-- The primitive under way changes the context as `Ctx.Goes` says, and leaves the lock alone. -/
theorem keeps_primitiveStep (hx : s.ctx = some x) (hm : x.micro = []) : Keeps x.Goes s (primitiveStep s x) := by
  unfold primitiveStep
  split
  · next hp => exact keeps_receivePoll hx hm (by simp [hp])
  · next hp => exact keeps_receivePoll hx hm (by simp [hp])
  · exact keeps_goOn (goes_phase rfl rfl rfl (xferIn_plain 1) nofun nofun)
  · exact keeps_receiveWindow hx _
  · exact keeps_receiveExtended hx
  · exact keeps_receiveDataResponse hx
  · next hp => exact keeps_chunkIn s hp
  · exact keeps_chunkOut s _ _ _
  · exact keeps_finish s _
  · exact keeps_refused
  · exact keeps_refused

end

end Sys2Proof.Machine

/-! PROOFS. Operations hold the bus (O12): the engine operations of a context, the programs, and every request. -/

namespace Sys2Proof.Machine

open Sys2Proof

/-! ### The client that takes the step holds what its context says -/

/-- The context is legal, and its client waits for the bus, has released it, or owns it: what `HoldsBus` says of it. -/
structure State.CtxOk (s : State) (x : Ctx) : Prop where
  legal : x.Legal
  holds : x.opens ∨ x.released ∨ s.lock.owner = some s.cur

/-- What `HoldsBus` says of the client that takes the step. -/
def State.TurnOk (s : State) : Prop := ∀ x, s.ctx = some x → s.CtxOk x

/-- After the step of the client, if it has a context, it holds what that says, and its call goes on. -/
def Turn (s : State) (o : Outcome) : Prop :=
  AllNext (fun t => ∀ x, t.ctx = some x → t.CtxOk x ∧ t.pendingCall s.cur = s.pendingCall s.cur) o

theorem HoldsBus.turnOk {s : State} (h : HoldsBus s) : s.TurnOk := by
  intro x hx
  unfold State.ctx at hx
  split at hx
  · next cl hcl => exact ⟨h.legal _ cl x hcl hx, h.owner _ cl x hcl hx⟩
  · cases hx

section

variable {s u : State} {x x' : Ctx}

theorem State.CtxOk.of_owner (hx : x.Legal) (ho : s.lock.owner = some s.cur) : s.CtxOk x := ⟨hx, .inr (.inr ho)⟩

theorem State.CtxOk.congr (h : s.CtxOk x) (hl : u.lock.owner = s.lock.owner) (hc : u.cur = s.cur) : u.CtxOk x :=
  ⟨h.legal, by rw [hl, hc]; exact h.holds⟩

/-- With no engine operation left, a context that does not leave belongs to the owner. -/
theorem State.CtxOk.owner (h : s.CtxOk x) (hm : x.micro = []) (hpc : ∀ r, x.pc ≠ .leaving r) :
    s.lock.owner = some s.cur := by
  rcases h.holds with ⟨-, d, hd⟩ | ⟨-, r, hr⟩ | ho
  · rw [hm] at hd
    cases hd
  · exact absurd hr (hpc r)
  · exact ho

/-- A group of engine operations that has been done: an operation that leaves has released the bus. -/
theorem State.CtxOk.finish (h : s.CtxOk x) (hm : x.micro = []) (r : PrimResult) : s.CtxOk (x.finish r) := by
  by_cases hpc : ∃ res, x.pc = .leaving res
  · refine ⟨.of_plain (fun _ hop => absurd hop List.not_mem_nil) (fun _ _ => .inr ⟨r, rfl⟩) h.legal.noCrc
      fun _ => Ctx.not_storing_of_done rfl, .inr (.inl ⟨rfl, hpc⟩)⟩
  · rw [not_exists] at hpc
    exact .of_owner ((goes_finish x r).legal h.legal hpc) (h.owner hm hpc)

theorem turn_goOn (h : u.CtxOk x) (hcl : u.clients = s.clients) : Turn s (u.goOn x) :=
  allNext_goOn.2 fun y hy => by
    obtain rfl := State.withCtx_ctx_eq hy
    exact ⟨h.congr rfl rfl, (u.withCtx_pendingCall y _).trans (State.pendingCall_congr hcl _)⟩

theorem turn_complete {r : Result} : Turn s (.next (u.complete r)) :=
  allNext_next.2 fun _ hy => by simp at hy

theorem Keeps.turn {P : Ctx → Prop} {o : Outcome} (h : Keeps P s o) (hP : ∀ x, P x → s.CtxOk x) :
    Turn s o := by
  intro t ht x hx
  obtain ⟨hl, hc, hP'⟩ := h t ht
  exact (hP' x hx).imp_left fun hPx => (hP x hPx).congr (congrArg Lock.owner hl) hc

/-- A primitive, where its program does not leave. -/
theorem Keeps.turn_of_goes {o : Outcome} (h : Keeps x.Goes s o) (hx : s.CtxOk x) (hm : x.micro = [])
    (hpc : ∀ r, x.pc ≠ .leaving r) : Turn s o :=
  h.turn fun _ hy => .of_owner (hy.legal hx.legal hpc) (hx.owner hm hpc)

/-! ### One engine operation of a context -/

/-- An engine operation that neither takes nor frees the bus leaves the rest of a legal context legal. -/
theorem Ctx.Legal.advance {op : EngineOp} {rest : List EngineOp} (h : x.Legal) (hm : x.micro = op :: rest)
    (hop : op.plain = true) (b : Option (List Byte)) : (x.advance rest b).Legal where
  first := by
    intro d (hd : EngineOp.acquire d ∈ rest)
    have hall := (h.first d (hm ▸ List.mem_cons_of_mem op hd)).1
    rw [hm] at hall
    cases hall
    cases hop
  last := by
    intro (hr : EngineOp.release ∈ rest)
    obtain ⟨hpc, l, hl, hnot⟩ := h.last (hm ▸ List.mem_cons_of_mem op hr)
    refine ⟨hpc, ?_⟩
    rw [hm] at hl
    cases l with
    | nil =>
      cases hl
      cases hop
    | cons a l =>
      cases hl
      exact ⟨l, rfl, fun hmem => hnot (List.mem_cons_of_mem _ hmem)⟩
  exit := h.exit
  noCrc := h.noCrc
  noStore := h.noStore

/-- The context after its first engine operation has completed: an `acquire` was the only one, and a `release` was
the last one. -/
theorem Drives.ctxOk {op : EngineOp} {rest : List EngineOp} (h : Drives s.cur s op u) (hx : s.CtxOk x)
    (hm : x.micro = op :: rest) (hc : u.cur = s.cur) (b : Option (List Byte)) : u.CtxOk (x.advance rest b) := by
  have hplain (hop : op.plain = true) (hl : u.lock = s.lock) : u.CtxOk (x.advance rest b) := by
    refine .of_owner (hx.legal.advance hm hop b) ?_
    rw [hl, hc]
    rcases hx.holds with ⟨-, d, hd⟩ | ⟨hnil, -⟩ | ho
    · rw [hm] at hd
      cases hd
      cases hop
    · rw [hm] at hnil
      cases hnil
    · exact ho
  cases h with
  | grant dev d =>
    obtain ⟨hall, hph⟩ := hx.legal.first dev (hm ▸ List.mem_cons_self)
    rw [hm] at hall
    cases hall
    exact .of_owner (.of_plain (fun _ hop => absurd hop List.not_mem_nil) hx.legal.exit hx.legal.noCrc
      fun _ => not_storing_group hph) rfl
  | free =>
    obtain ⟨hpc, l, hl, hnot⟩ := hx.legal.last (hm ▸ List.mem_cons_self)
    rw [hm] at hl
    cases l with
    | nil =>
      cases hl
      exact ⟨.of_plain (fun _ hop => absurd hop List.not_mem_nil) hx.legal.exit hx.legal.noCrc
        fun hps ⟨base, off, left, hst⟩ => hx.legal.noStore hps base off left hst, .inr (.inl ⟨rfl, hpc⟩)⟩
    | cons a l =>
      cases hl
      exact absurd List.mem_cons_self hnot
  | clock _ hop | chipSelect _ hop | field _ hop | start _ hop | look _ hop => exact hplain hop rfl

theorem engineOp_blocked_owner {c : Nat} {op : EngineOp} (h : engineOp c op s = .blocked u) :
    u.lock.owner = s.lock.owner := by
  obtain ⟨dev, rfl⟩ | ⟨-, rfl⟩ := engineOp_blocked h
  · obtain ⟨-, -, -, -, rfl⟩ := acquireOp_blocked.1 h
    rfl
  · rfl

theorem turn_runMicro {op : EngineOp} {rest : List EngineOp} (hx : s.CtxOk x) (hm : x.micro = op :: rest) :
    Turn s (runMicro s x op rest) := by
  unfold runMicro
  split
  · next u b h => 
    have hout := engineOp_done_outside h
    exact turn_goOn ((drives_of_done h).ctxOk hx hm hout.cur b) hout.clients
  · next u h => 
    have hout := engineOp_blocked_outside h
    exact turn_goOn (hx.congr (engineOp_blocked_owner h) hout.cur) hout.clients
  · exact allNext_refused

/-! ### Programs -/

/-- Where a program gets control: with the result of the primitive that its step called, or with none before it is
called. -/
def phaseOf : Option PrimResult → Phase
  | none => .ready
  | some r => .done r

/-- What a program has to show: it keeps its context legal, and where it leaves it does nothing but deliver. -/
structure ProgramOk (prog : Program) (s : State) (x : Ctx) : Prop where
  keeps : ∀ r, s.awaits x (phaseOf r) → x.Legal → Keeps Ctx.Legal s (prog s x r)
  leaves : ∀ r res, x.pc = .leaving res → AllNext (fun t => t.ctx = none) (prog s x r)

theorem turn_of_noCtx {o : Outcome} (h : AllNext (fun t => t.ctx = none) o) : Turn s o := by
  intro t ht x hx
  cases hx.symm.trans (h t ht)

theorem ProgramOk.turn {prog : Program} {r : Option PrimResult} (h : ProgramOk prog s x) (hx : s.CtxOk x)
    (ha : s.awaits x (phaseOf r)) : Turn s (prog s x r) := by
  by_cases hpc : ∃ res, x.pc = .leaving res
  · obtain ⟨res, hpc⟩ := hpc
    exact turn_of_noCtx (h.leaves r res hpc)
  · rw [not_exists] at hpc
    exact (h.keeps r ha hx.legal).turn fun _ hy => .of_owner hy (hx.owner ha.2.1 hpc)

/-- One step of a client that runs a program. -/
theorem turn_runProgram {prog : Program} (hs : s.ctx = some x) (hx : s.CtxOk x) (h : ProgramOk prog s x) :
    Turn s (runProgram prog s x) := by
  unfold runProgram
  split
  · next op rest hm => exact turn_runMicro hx hm
  · next hm =>
    split
    · next hp => exact h.turn (r := none) hx ⟨hs, hm, hp⟩
    · next r hp => exact h.turn (r := some r) hx ⟨hs, hm, hp⟩
    · next hready hdone =>
      by_cases hg : x.phase = .group
      · simp only [primitiveStep, hg]
        exact turn_goOn (hx.finish hm _) rfl
      · exact (keeps_primitiveStep hs hm).turn_of_goes hx hm (hx.legal.not_leaving hg hdone)

/-- One step of a client whose call is a sequencer operation: its first one is the `acquire` it begins with. -/
theorem turn_operation {prog : Program} {dev : Nat} {pc : SeqPc} {claim : Option (Nat × Nat)} (hs : s.TurnOk)
    (hpc : pc = .i0Acquire ∨ pc = .beginOp) (h : ∀ x, s.ctx = some x → ProgramOk prog s x) :
    Turn s (operation (opening dev pc claim) prog s) := by
  unfold operation
  split
  · exact turn_runMicro ⟨legal_opening dev claim hpc, .inl ⟨hpc, dev, rfl⟩⟩ rfl
  · next x hx => exact turn_runProgram hx (hs x hx) (h x hx)

/-! ### The steps the programs share -/

theorem keepsLegal_goto (x : Ctx) {pc : SeqPc} (hpc : ∀ r, pc ≠ .leaving r) : Keeps Ctx.Legal s (s.goOn (x.goto pc)) :=
  keeps_goOn (legal_goto x hpc)

theorem keepsLegal_endWith (x : Ctx) {r : Res} (hr : r ≠ .crcError) : Keeps Ctx.Legal s (endWith s x r) :=
  keeps_goOn (legal_endOps x hr)

theorem keepsLegal_afterCommand (x : Ctx) (r1 : Byte) {pc : SeqPc} (hpc : ∀ r, pc ≠ .leaving r) :
    Keeps Ctx.Legal s (afterCommand s x r1 pc) :=
  keeps_ite (keepsLegal_goto x hpc) (keepsLegal_endWith x nofun)

theorem keepsLegal_failInit (x : Ctx) (e : ErrKind) : Keeps Ctx.Legal s (failInit s x e) := keepsLegal_goto x nofun

theorem keepsLegal_beginAcquired (d : Nat) (x : Ctx) : Keeps Ctx.Legal s (beginAcquired d s x) := by
  unfold beginAcquired
  split
  · exact keeps_refused
  · exact keeps_ite (keeps_goOn (legal_engine x nofun (by simp [EngineOp.plain]))) keeps_refused

theorem keepsLegal_withAddr (d n : Nat) {k : BitVec 32 → Outcome} (h : ∀ a, Keeps Ctx.Legal s (k a)) :
    Keeps Ctx.Legal s (withAddr d n s k) := by
  unfold withAddr
  split
  · exact keeps_refused
  · split
    · exact keeps_refused
    · exact h _

theorem keepsLegal_withBlock (x : Ctx) {k : Nat → Outcome} (h : ∀ n, Keeps Ctx.Legal s (k n)) :
    Keeps Ctx.Legal s (withBlock x k) := by
  unfold withBlock
  split
  · exact keeps_refused
  · exact h _

/-- A primitive that begins where its program has called nothing yet. -/
theorem Keeps.legal_of_ready {o : Outcome} (h : Keeps x.Goes s o) (hx : x.Legal) (hr : x.phase = .ready) :
    Keeps Ctx.Legal s o := h.imp fun _ hy => hy.legal hx (hx.not_leaving_of_ready hr)

/-- A stream of received bytes begins, into caller memory in no pseudo-operation. -/
theorem keepsLegal_startStreamIn {dst : Dest} (n : Nat) (hx : x.Legal) (hr : x.phase = .ready)
    (hpc : x.pc ≠ .pseudo ∧ x.pc ≠ .pseudoAppCmd) : Keeps Ctx.Legal s (startStreamIn s x dst n) :=
  keeps_goOn (.of_plain (xferIn_plain _) (fun r h => absurd h (hx.not_leaving_of_ready hr r)) hx.noCrc
    fun hp => absurd hp (not_or.2 hpc))

/-- At a command step of a program a row sends its command (R260). -/
theorem commandRow_ready (ha : s.awaits x .ready) (c : Command) : commandRow c s = startCommand s x c := by
  obtain ⟨hs, hm, hp⟩ := ha
  simp [commandRow, hs, hm, hp]

theorem acmdRow_ready (ha : s.awaits x .ready) (c : Command) : acmdRow c s = startCommand s x c := by
  obtain ⟨hs, hm, hp⟩ := ha
  simp [acmdRow, hs, hm, hp]

theorem keepsLegal_commandRow (ha : s.awaits x .ready) (hx : x.Legal) (c : Command) :
    Keeps Ctx.Legal s (commandRow c s) := by
  rw [commandRow_ready ha]
  exact (keeps_startCommand s x c).legal_of_ready hx ha.2.2

/-- At a token step of a program a row is sent (R339, R347, R349). -/
theorem tokenRow_ready (ha : s.awaits x .ready) (tok : Byte) (k : State → Ctx → Outcome) :
    tokenRow tok k s = startXferOut s x [tok] := by
  obtain ⟨hs, hm, hp⟩ := ha
  simp [tokenRow, hs, hm, hp]

theorem keepsLegal_tokenRow (ha : s.awaits x .ready) (hx : x.Legal) (tok : Byte) (k : State → Ctx → Outcome) :
    Keeps Ctx.Legal s (tokenRow tok k s) := by
  rw [tokenRow_ready ha]
  exact (keeps_startXferOut s x _).legal_of_ready hx ha.2.2

theorem keepsLegal_acmd {c : Option Command} {head frame : SeqPc} {failed : Option Byte → Outcome}
    {done : PrimResult → Outcome} {r : Option PrimResult} (ha : s.awaits x (phaseOf r)) (hx : x.Legal)
    (hframe : ∀ r, frame ≠ .leaving r) (hf : ∀ tag, Keeps Ctx.Legal s (failed tag))
    (hd : ∀ p, Keeps Ctx.Legal s (done p)) : Keeps Ctx.Legal s (acmd c head frame failed done s x r) := by
  unfold acmd
  split
  · split
    · exact (keeps_startCommand s x _).legal_of_ready hx ha.2.2
    · exact keeps_refused
  · split
    · split
      · exact keeps_ite (hf _) (keepsLegal_goto x hframe)
      · exact hf _
      · exact keeps_refused
    · exact hd _

/-! ### Initialization -/

theorem keepsLegal_initUnsupported (x : Ctx) (sw : Bool) : Keeps Ctx.Legal s (initUnsupported s x sw) :=
  keeps_ite (keepsLegal_goto _ nofun) (keepsLegal_failInit x _)

theorem keepsLegal_initAttemptEnd (x : Ctx) (p : PrimResult) : Keeps Ctx.Legal s (initAttemptEnd s x p) := by
  unfold initAttemptEnd
  split
  · exact keeps_ite (keepsLegal_goto x nofun) (keeps_ite (keepsLegal_goto x nofun) (keepsLegal_initUnsupported x _))
  · exact keepsLegal_failInit x _
  · exact keeps_refused

theorem keepsLegal_initAcmd {r : Option PrimResult} (ha : s.awaits x (phaseOf r)) (hx : x.Legal) :
    Keeps Ctx.Legal s (initAcmd s x r) :=
  keepsLegal_acmd ha hx nofun (fun _ => keepsLegal_initUnsupported x _) fun p => keepsLegal_initAttemptEnd x p

set_option maxRecDepth 8000 in
theorem keepsLegal_initProgram (d : Nat) (deliver : Res → Result) {r : Option PrimResult}
    (ha : s.awaits x (phaseOf r)) (hx : x.Legal) : Keeps Ctx.Legal s (initProgram d deliver s x r) := by
  unfold initProgram
  split
  · unfold initAcquired
    split
    · exact keeps_refused
    · exact keeps_ite (keeps_goOn (legal_engine x nofun (by simp [EngineOp.plain]))) keeps_refused
  · exact keeps_goOn_of rfl rfl rfl (legal_goto x nofun)
  · exact keeps_goOn (legal_engine x nofun wakeOps_plain)
  · exact keepsLegal_goto x nofun
  · exact keepsLegal_commandRow ha hx _
  · exact keeps_ite (keepsLegal_goto x nofun) (keepsLegal_failInit x _)
  · exact keepsLegal_failInit x _
  · exact keepsLegal_commandRow ha hx _
  · unfold initIfCondReply
    split
    · exact keepsLegal_goto _ nofun
    · split
      · exact keeps_refused
      · exact keeps_ite (keepsLegal_goto _ nofun) (keepsLegal_failInit x _)
  · exact keepsLegal_failInit x _
  · exact keeps_now_goOn (legal_goto _ nofun)
  · exact keepsLegal_initAcmd ha hx
  · exact keepsLegal_initAcmd ha hx
  · exact keepsLegal_commandRow ha hx _
  · exact keepsLegal_initAttemptEnd x _
  · unfold initDeadline
    split
    · exact keeps_refused
    · refine keeps_ite (keeps_now_goOn (legal_goto _ nofun)) (keeps_now_goOn (legal_goto _ ?_))
      unfold attemptStep
      split <;> exact nofun
  · exact keeps_ite (keepsLegal_commandRow ha hx _) (keepsLegal_goto x nofun)
  · unfold initOcrReply
    split
    · split
      · exact keeps_refused
      · exact keeps_ite (keeps_goOn_of rfl rfl rfl (legal_goto _ nofun)) (keepsLegal_goto x nofun)
    · exact keepsLegal_failInit x _
  · exact keepsLegal_failInit x _
  · unfold initBlocklen
    split
    · exact keeps_refused
    · exact keeps_ite (keepsLegal_goto x nofun) (keepsLegal_commandRow ha hx _)
  · exact keeps_ite (keepsLegal_goto x nofun) (keepsLegal_failInit x _)
  · exact keepsLegal_failInit x _
  · unfold initReady
    split
    · exact keeps_goOn_of rfl rfl rfl (legal_exitOps x _ nofun)
    · exact keeps_refused
    · exact keeps_refused
  · unfold initFail
    split
    · exact keeps_refused
    · exact keeps_goOn_of rfl rfl rfl (legal_exitOps x _ (ErrKind.res_ne_crcError _))
  · exact keeps_complete
  · exact keeps_refused

end

end Sys2Proof.Machine

/-! PROOFS. The remaining programs hold the bus, and so does every request (O12). -/

namespace Sys2Proof.Machine

open Sys2Proof

section

variable {s u : State} {x : Ctx}

/-! ### Block read, write and erase -/

set_option maxRecDepth 8000 in
theorem keepsLegal_readProgram (d first count buf : Nat) (deliver : Res → Result) {r : Option PrimResult}
    (ha : s.awaits x (phaseOf r)) (hx : x.Legal) :
    Keeps Ctx.Legal s (readProgram d first count buf deliver s x r) := by
  unfold readProgram
  split
  · exact keepsLegal_beginAcquired d x
  · exact keepsLegal_goto x nofun
  · exact keepsLegal_withAddr d first fun a => keeps_ite (keepsLegal_commandRow ha hx _) (keepsLegal_commandRow ha hx _)
  · exact keepsLegal_afterCommand _ _ nofun
  · exact keepsLegal_endWith x nofun
  · exact (keeps_startPollToken s x _).legal_of_ready hx ha.2.2
  · exact keepsLegal_goto x nofun
  · exact keepsLegal_endWith x nofun
  · exact keepsLegal_endWith x nofun
  · next hpc => exact keepsLegal_withBlock x fun k => keepsLegal_startStreamIn _ hx ha.2.2 (by simp [hpc])
  · exact keepsLegal_goto x nofun
  · next hpc => exact keepsLegal_startStreamIn _ hx ha.2.2 (by simp [hpc])
  · exact keepsLegal_withBlock x fun k =>
      keeps_ite (keepsLegal_goto _ nofun) (keeps_ite (keepsLegal_goto _ nofun) (keepsLegal_endWith _ nofun))
  · exact keepsLegal_commandRow ha hx _
  · refine keepsLegal_endWith x ?_
    split <;> exact nofun
  · exact keepsLegal_endWith x nofun
  · exact keeps_complete
  · exact keeps_refused

theorem keepsLegal_writeAcmd (count : Nat) {r : Option PrimResult} (ha : s.awaits x (phaseOf r)) (hx : x.Legal) :
    Keeps Ctx.Legal s (writeAcmd count s x r) := by
  refine keepsLegal_acmd ha hx nofun (fun _ => keepsLegal_endWith x nofun) fun p => ?_
  unfold writeAnnounced
  split
  · exact keepsLegal_afterCommand x _ nofun
  · exact keepsLegal_endWith x nofun
  · exact keeps_refused

set_option maxRecDepth 8000 in
theorem keepsLegal_writeProgram (d first count buf : Nat) (deliver : Res → Result) {r : Option PrimResult}
    (ha : s.awaits x (phaseOf r)) (hx : x.Legal) :
    Keeps Ctx.Legal s (writeProgram d first count buf deliver s x r) := by
  unfold writeProgram
  split
  · exact keepsLegal_beginAcquired d x
  · unfold writeStart
    split
    · exact keepsLegal_goto x nofun
    · split
      · exact keeps_refused
      · refine keepsLegal_goto x ?_
        split <;> exact nofun
  · exact keepsLegal_withAddr d first fun a => keepsLegal_commandRow ha hx _
  · exact keepsLegal_afterCommand x _ nofun
  · exact keepsLegal_endWith x nofun
  · exact keepsLegal_tokenRow ha hx _ _
  · exact keepsLegal_goto x nofun
  · exact (keeps_sendChunk s x _ _ _).legal_of_ready hx ha.2.2
  · exact keepsLegal_goto x nofun
  · exact (keeps_startXferOut s x _).legal_of_ready hx ha.2.2
  · exact keepsLegal_goto x nofun
  · exact (keeps_startDataResponse s x).legal_of_ready hx ha.2.2
  · exact keepsLegal_endWith x nofun
  · exact keepsLegal_endWith x nofun
  · exact keepsLegal_writeAcmd count ha hx
  · exact keepsLegal_writeAcmd count ha hx
  · exact keepsLegal_withAddr d first fun a => keepsLegal_commandRow ha hx _
  · exact keepsLegal_afterCommand _ _ nofun
  · exact keepsLegal_endWith x nofun
  · exact keepsLegal_tokenRow ha hx _ _
  · exact keepsLegal_goto x nofun
  · exact keepsLegal_withBlock x fun k => (keeps_sendChunk s x _ _ _).legal_of_ready hx ha.2.2
  · exact keepsLegal_goto x nofun
  · exact (keeps_startXferOut s x _).legal_of_ready hx ha.2.2
  · exact keepsLegal_goto x nofun
  · exact (keeps_startDataResponse s x).legal_of_ready hx ha.2.2
  · exact keepsLegal_goto x nofun
  · exact keepsLegal_goto x nofun
  · exact (keeps_startPollBusy s x _ _).legal_of_ready hx ha.2.2
  · refine keepsLegal_withBlock x fun k => keepsLegal_goto _ ?_
    split <;> exact nofun
  · exact keepsLegal_goto x nofun
  · exact keepsLegal_tokenRow ha hx _ _
  · exact keepsLegal_goto x nofun
  · exact (keeps_startPollBusy s x _ _).legal_of_ready hx ha.2.2
  · exact keepsLegal_endWith x nofun
  · exact keepsLegal_endWith x nofun
  · exact keepsLegal_commandRow ha hx _
  · exact keepsLegal_endWith x (ErrKind.res_ne_crcError _)
  · exact keepsLegal_endWith x (ErrKind.res_ne_crcError _)
  · exact keeps_complete
  · exact keeps_refused

set_option maxRecDepth 8000 in
theorem keepsLegal_eraseProgram (d first last : Nat) {r : Option PrimResult} (ha : s.awaits x (phaseOf r))
    (hx : x.Legal) : Keeps Ctx.Legal s (eraseProgram d first last s x r) := by
  unfold eraseProgram
  split
  · exact keepsLegal_beginAcquired d x
  · exact keepsLegal_goto x nofun
  · exact keepsLegal_withAddr d first fun a => keepsLegal_commandRow ha hx _
  · exact keepsLegal_afterCommand x _ nofun
  · exact keepsLegal_endWith x nofun
  · exact keepsLegal_withAddr d last fun a => keepsLegal_commandRow ha hx _
  · exact keepsLegal_afterCommand x _ nofun
  · exact keepsLegal_endWith x nofun
  · exact keepsLegal_commandRow ha hx _
  · refine keepsLegal_endWith x ?_
    split <;> exact nofun
  · exact keepsLegal_endWith x nofun
  · exact keeps_complete
  · exact keeps_refused

/-! ### Register reads -/

set_option maxRecDepth 8000 in
theorem keepsLegal_registerProgram (d : Nat) (rev : Bool) {store : State → Ctx → List Byte → Outcome}
    {deliver : State → Ctx → Res → Outcome} {r : Option PrimResult} (ha : s.awaits x (phaseOf r)) (hx : x.Legal)
    (hs : ∀ bs, Keeps Ctx.Legal s (store s x bs)) (hd : ∀ res, Keeps Ctx.Legal s (deliver s x res)) :
    Keeps Ctx.Legal s (registerProgram d rev store deliver s x r) := by
  unfold registerProgram
  split
  · exact keepsLegal_beginAcquired d x
  · exact keepsLegal_goto x nofun
  · exact keeps_ite (keepsLegal_commandRow ha hx _) (keepsLegal_commandRow ha hx _)
  · exact keepsLegal_afterCommand x _ nofun
  · exact keepsLegal_endWith x nofun
  · exact (keeps_startPollToken s x _).legal_of_ready hx ha.2.2
  · exact keepsLegal_goto x nofun
  · exact keepsLegal_endWith x nofun
  · exact keepsLegal_endWith x nofun
  · next hpc =>
    exact keeps_goOn (.of_plain (xferIn_plain _) (by simp [hpc]) (by simp [hpc]) (by simp [hpc]))
  · exact keepsLegal_goto x nofun
  · next hpc => exact keepsLegal_startStreamIn _ hx ha.2.2 (by simp [hpc])
  · exact keepsLegal_goto x nofun
  · exact hs _
  · exact hd _
  · exact keeps_refused

theorem keepsLegal_storeRegister (buf : Nat) (bs : List Byte) : Keeps Ctx.Legal s (storeRegister buf s x bs) := by
  unfold storeRegister
  split
  · exact keeps_refused
  · next u hu =>
    rw [State.writeBuffer_some hu]
    exact keeps_goOn_of rfl rfl rfl (legal_endOps x nofun)

theorem keepsLegal_deliverCapacity (res : Res) : Keeps Ctx.Legal s (deliverCapacity s x res) := by
  unfold deliverCapacity
  split
  · split
    · exact keeps_complete
    · exact keeps_complete_of rfl rfl
  · exact keeps_complete

/-! ### Where a program leaves it does nothing but deliver its result -/

theorem noCtx_complete {r : Result} : AllNext (fun t => t.ctx = none) (.next (s.complete r)) :=
  allNext_next.2 (State.complete_ctx s r)

section

variable {res : Res} (hpc : x.pc = .leaving res) (r : Option PrimResult)

include hpc

/-- At its last step an initialization delivers its result (R401, R421). -/
theorem initProgram_leaving (d : Nat) (deliver : Res → Result) : initProgram d deliver s x r =
    if r = some .ok then .next (s.complete (deliver res)) else .refused .outOfPhase := by
  rcases r with _ | _ | _ | _ | _ | _ <;> simp [initProgram, hpc]

theorem readProgram_leaving (d first count buf : Nat) (deliver : Res → Result) :
    readProgram d first count buf deliver s x r =
      if r = some .ok then .next (s.complete (deliver res)) else .refused .outOfPhase := by
  rcases r with _ | _ | _ | _ | _ | _ <;> simp [readProgram, hpc]

theorem writeProgram_leaving (d first count buf : Nat) (deliver : Res → Result) :
    writeProgram d first count buf deliver s x r =
      if r = some .ok then .next (s.complete (deliver res)) else .refused .outOfPhase := by
  rcases r with _ | _ | _ | _ | _ | _ <;> simp [writeProgram, hpc]

theorem eraseProgram_leaving (d first last : Nat) : eraseProgram d first last s x r =
    if r = some .ok then .next (s.complete (.seq res)) else .refused .outOfPhase := by
  rcases r with _ | _ | _ | _ | _ | _ <;> simp [eraseProgram, hpc]

theorem registerProgram_leaving (d : Nat) (rev : Bool) (store : State → Ctx → List Byte → Outcome)
    (deliver : State → Ctx → Res → Outcome) : registerProgram d rev store deliver s x r =
      if r = some .ok then deliver s x res else .refused .outOfPhase := by
  rcases r with _ | _ | _ | _ | _ | _ <;> simp [registerProgram, hpc]

end

theorem programOk_init (d : Nat) (deliver : Res → Result) : ProgramOk (initProgram d deliver) s x where
  keeps := fun _ => keepsLegal_initProgram d deliver
  leaves := fun r res hpc => by
    rw [initProgram_leaving hpc]
    exact allNext_ite noCtx_complete allNext_refused

theorem programOk_read (d first count buf : Nat) (deliver : Res → Result) :
    ProgramOk (readProgram d first count buf deliver) s x where
  keeps := fun _ => keepsLegal_readProgram d first count buf deliver
  leaves := fun r res hpc => by
    rw [readProgram_leaving hpc]
    exact allNext_ite noCtx_complete allNext_refused

theorem programOk_write (d first count buf : Nat) (deliver : Res → Result) :
    ProgramOk (writeProgram d first count buf deliver) s x where
  keeps := fun _ => keepsLegal_writeProgram d first count buf deliver
  leaves := fun r res hpc => by
    rw [writeProgram_leaving hpc]
    exact allNext_ite noCtx_complete allNext_refused

theorem programOk_erase (d first last : Nat) : ProgramOk (eraseProgram d first last) s x where
  keeps := fun _ => keepsLegal_eraseProgram d first last
  leaves := fun r res hpc => by
    rw [eraseProgram_leaving hpc]
    exact allNext_ite noCtx_complete allNext_refused

theorem programOk_register (d : Nat) (rev : Bool) {store : State → Ctx → List Byte → Outcome}
    {deliver : State → Ctx → Res → Outcome} (hs : ∀ bs, Keeps Ctx.Legal s (store s x bs))
    (hd : ∀ res, Keeps Ctx.Legal s (deliver s x res)) (hn : ∀ res, AllNext (fun t => t.ctx = none) (deliver s x res)) :
    ProgramOk (registerProgram d rev store deliver) s x where
  keeps := fun _ ha hx => keepsLegal_registerProgram d rev ha hx hs hd
  leaves := fun r res hpc => by
    rw [registerProgram_leaving hpc]
    exact allNext_ite (hn res) allNext_refused

theorem noCtx_deliverCapacity (res : Res) : AllNext (fun t => t.ctx = none) (deliverCapacity s x res) := by
  unfold deliverCapacity
  split
  · split
    · exact noCtx_complete
    · exact noCtx_complete
  · exact noCtx_complete

/-! ### Sequencer operations -/

variable (hs : s.TurnOk)

include hs

theorem turn_initOperation (d : Nat) (deliver : Res → Result) : Turn s (initOperation d deliver s) :=
  turn_operation hs (.inl rfl) fun _ _ => programOk_init d deliver

theorem turn_readOperation (d first count buf : Nat) (deliver : Res → Result) :
    Turn s (readOperation d first count buf deliver s) :=
  allNext_ite allNext_refused (turn_operation hs (.inr rfl) fun _ _ => programOk_read d first count buf deliver)

theorem turn_writeOperation (d first count buf : Nat) (deliver : Res → Result) :
    Turn s (writeOperation d first count buf deliver s) :=
  allNext_ite allNext_refused (turn_operation hs (.inr rfl) fun _ _ => programOk_write d first count buf deliver)

theorem turn_execSdErase (d first last : Nat) : Turn s (execSdErase d first last s) :=
  turn_operation hs (.inr rfl) fun _ _ => programOk_erase d first last

theorem turn_registerOperation (d buf : Nat) (rev : Bool) : Turn s
    (operation (opening d .beginOp (some (buf, 16)))
      (registerProgram d rev (storeRegister buf) deliverRegister) s) :=
  turn_operation hs (.inr rfl) fun _ _ => programOk_register d rev (keepsLegal_storeRegister buf)
    (fun _ => keeps_complete) fun _ => noCtx_complete

omit hs in
theorem turn_answer (r : Result) : Turn s (answer s r) := allNext_ite turn_complete allNext_refused

theorem turn_execBlockCount (u : Nat) : Turn s (execBlockCount u s) :=
  allNext_ite (turn_operation hs (.inr rfl) fun _ _ => programOk_register u true
    (fun _ => keepsLegal_endWith _ nofun) keepsLegal_deliverCapacity noCtx_deliverCapacity) (turn_answer _)

/-! ### Pseudo-operations, command rows and token rows -/

omit hs in
/-- What needs an owned, idle bus starts only there (R205). -/
theorem allNext_requireIdleBus {P : State → Prop} {k : Outcome} (h : s.owns s.cur = true → AllNext P k) :
    AllNext P (requireIdleBus s k) := by
  by_cases ho : s.owns s.cur = true ∧ s.engine.busy = false
  · rw [requireIdleBus_of ho.1 ho.2]
    exact h ho.1
  · obtain ⟨r, hr⟩ := requireIdleBus_not (k := k) ho
    rw [hr]
    exact allNext_refused

omit hs in
/-- A primitive that a client which owns the bus starts by itself. -/
theorem turn_started {o : Outcome} {pc : SeqPc} (h : Keeps (Ctx.start pc none).Goes s o)
    (hpc : ∀ r, pc ≠ .leaving r) (ho : s.owns s.cur = true) : Turn s o :=
  h.turn fun _ hy => .of_owner (hy.legal (legal_start none hpc) hpc) (owns_iff.1 ho).2

omit hs in
theorem noCtx_pseudoEnd (p : PrimResult) : AllNext (fun t => t.ctx = none) (pseudoEnd s x p) := by
  cases p
  case rejected => exact allNext_refused
  all_goals exact noCtx_complete

omit hs in
theorem keeps_pseudoEnd {P : Ctx → Prop} (p : PrimResult) : Keeps P s (pseudoEnd s x p) := by
  cases p
  case rejected => exact keeps_refused
  all_goals exact keeps_complete

omit hs in
theorem programOk_pseudo : ProgramOk pseudoProgram s x where
  keeps := fun r _ _ => by
    cases r
    · exact keeps_refused
    · exact keeps_pseudoEnd _
  leaves := fun r _ _ => by
    cases r
    · exact allNext_refused
    · exact noCtx_pseudoEnd _

theorem turn_commandRow (c : Command) : Turn s (commandRow c s) := by
  unfold commandRow
  split
  · exact allNext_requireIdleBus (turn_started (keeps_startCommand s _ c) nofun)
  · next x hx =>
    have hok := hs x hx
    exact allNext_ite_of (fun ⟨hr, hm⟩ => (keeps_startCommand s x c).turn_of_goes hok hm
      (hok.legal.not_leaving_of_ready hr)) (allNext_ite (turn_runProgram hx hok programOk_pseudo) allNext_refused)

end

end Sys2Proof.Machine

/-! PROOFS. Every request keeps the bus held, and so does every step of the machine (O12). -/

namespace Sys2Proof.Machine

open Sys2Proof

section

variable {s u : State} {x : Ctx} (hs : s.TurnOk)

/-! ### Application commands and the rows that a card's answer can be -/

include hs

theorem turn_acmdRow (c : Command) : Turn s (acmdRow c s) := by
  unfold acmdRow
  split
  · exact allNext_requireIdleBus (turn_started (keeps_startCommand s _ _) nofun)
  · next x hx =>
    have hok := hs x hx
    refine allNext_ite_of (fun ⟨hr, hm⟩ => (keeps_startCommand s x c).turn_of_goes hok hm
      (hok.legal.not_leaving_of_ready hr)) (allNext_ite_of (fun hpc => ?_) allNext_refused)
    refine turn_runProgram hx hok ⟨fun r ha hl => ?_, fun r res h => ?_⟩
    · exact keepsLegal_acmd ha hl nofun (fun _ => keeps_complete) keeps_pseudoEnd
    · simp [h] at hpc

/-- A row that is read where a primitive of a program reads a byte. -/
theorem turn_receiving {k : Ctx → Outcome} (h : ∀ x, s.ctx = some x → Keeps x.Goes s (receiving s k))
    (hg : ∀ x : Ctx, x.phase = .group ∨ (∃ p, x.phase = .done p) → ∃ r, k x = .refused r) :
    Turn s (receiving s k) := by
  intro t ht
  cases hx : s.ctx with
  | none => simp [receiving, hx] at ht
  | some x =>
    have hk : x.micro = [] ∧ k x = .next t := by
      simp only [receiving, hx] at ht
      split at ht
      · next hm => exact ⟨hm, ht⟩
      · cases ht
    have hphase : ¬ (x.phase = .group ∨ ∃ p, x.phase = .done p) := by
      intro hp
      obtain ⟨r, hr⟩ := hg x hp
      cases hr.symm.trans hk.2
    rw [not_or, not_exists] at hphase
    exact (h x hx).turn_of_goes (hs x hx) hk.1 ((hs x hx).legal.not_leaving hphase.1 hphase.2) t ht

theorem turn_execR1Status (st : BitVec 7) : Turn s (execR1Status st s) := by
  refine turn_receiving hs (fun _ hx => keeps_execR1Status hx st) ?_
  rintro x (hp | ⟨p, hp⟩) <;> exact ⟨_, by simp [hp]; rfl⟩

theorem turn_execR3StatusOcr (st : BitVec 7) (o : BitVec 32) :
    Turn s (execR3StatusOcr st o s) := by
  refine turn_receiving hs (fun _ hx => keeps_execR3StatusOcr hx st o) ?_
  rintro x (hp | ⟨p, hp⟩) <;> exact ⟨_, by simp [hp]; rfl⟩

theorem turn_execR7StatusEcho (st : BitVec 7) (hi : BitVec 20) (e : BitVec 12) :
    Turn s (execR7StatusEcho st hi e s) := by
  refine turn_receiving hs (fun _ hx => keeps_execR7StatusEcho hx st hi e) ?_
  rintro x (hp | ⟨p, hp⟩) <;> exact ⟨_, by simp [hp]; rfl⟩

theorem turn_execFillerNotBusy : Turn s (execFillerNotBusy s) := by
  refine turn_receiving hs (fun _ hx => keeps_execFillerNotBusy hx) ?_
  rintro x (hp | ⟨p, hp⟩) <;> exact ⟨_, by simp [hp]; rfl⟩

theorem turn_execDataResponseAccepted (v : BitVec 4) :
    Turn s (execDataResponseAccepted v s) := by
  refine turn_receiving hs (fun _ hx => keeps_execDataResponseAccepted hx v) ?_
  rintro x (hp | ⟨p, hp⟩) <;> exact ⟨_, by simp [hp]; rfl⟩

theorem turn_execDataResponseRejected (v n : BitVec 4) :
    Turn s (execDataResponseRejected v n s) := by
  refine turn_receiving hs (fun _ hx => keeps_execDataResponseRejected hx v n) ?_
  rintro x (hp | ⟨p, hp⟩) <;> exact ⟨_, by simp [hp]; rfl⟩

/-! ### Tokens -/

/-- A token row, sent as a pseudo-operation or by a program, or read; `k` is what it is in the token wait. -/
theorem turn_tokenRow (tok : Byte) {k : State → Ctx → Outcome} (hk : ∀ x, Keeps x.Goes s (k s x)) :
    Turn s (tokenRow tok k s) := by
  cases hx : s.ctx with
  | none =>
    simp only [tokenRow, hx]
    exact allNext_requireIdleBus (turn_started (keeps_startXferOut s _ _) nofun)
  | some x =>
    have hok := hs x hx
    cases hm : x.micro with
    | cons op rest =>
      simp only [tokenRow, hx, hm]
      exact allNext_ite (turn_runMicro hok hm) allNext_refused
    | nil =>
      by_cases hg : x.phase = .group
      · simp only [tokenRow, hx, hm, hg]
        exact allNext_ite turn_complete allNext_refused
      · by_cases hd : ∃ p, x.phase = .done p
        · obtain ⟨p, hp⟩ := hd
          simp only [tokenRow, hx, hm, hp, receiveToken]
          exact allNext_refused
        · rw [not_exists] at hd
          exact (keeps_tokenRow hx hm tok (hk x)).turn_of_goes hok hm (hok.legal.not_leaving hg hd)

theorem turn_execDataStartToken : Turn s (execDataStartToken s) :=
  turn_tokenRow hs _ fun x => keeps_finish s (x := x) _

theorem turn_execMultiBlockWriteStartToken : Turn s (execMultiBlockWriteStartToken s) :=
  turn_tokenRow hs _ fun x => keeps_finish s (x := x) _

theorem turn_execMultiBlockStopToken : Turn s (execMultiBlockStopToken s) :=
  turn_tokenRow hs _ fun x => keeps_finish s (x := x) _

/-! ### Pseudo-operations -/

theorem turn_pseudo {start : Outcome} {prog : Program}
    (hstart : s.owns s.cur = true → Turn s start) (hp : ∀ x, ProgramOk prog s x) :
    Turn s (pseudo start prog s) := by
  unfold pseudo
  split
  · exact allNext_requireIdleBus hstart
  · next x hx => exact allNext_ite (turn_runProgram hx (hs x hx) (hp x)) allNext_refused

theorem turn_pseudoGroup {op : EngineOp} {rest : List EngineOp} (result : Ctx → Result)
    (hops : ∀ o ∈ op :: rest, o.plain = true) : Turn s (pseudoGroup (op :: rest) result s) := by
  refine turn_pseudo hs (fun ho => ?_) fun x => ⟨fun r _ _ => ?_, fun r _ _ => ?_⟩
  · exact turn_runMicro (.of_owner (legal_engine _ nofun hops) (owns_iff.1 ho).2) rfl
  · split
    · exact keeps_complete
    · exact keeps_refused
  · split
    · exact noCtx_complete
    · exact allNext_refused

theorem turn_execPseudo (op : PseudoOp) : Turn s (execPseudo op s) := by
  cases op with
  | xferIn n => exact allNext_ite (turn_pseudoGroup hs _ (xferIn_plain n)) allNext_refused
  | xferOut bs => exact allNext_ite (turn_pseudoGroup hs _ (xferOut_plain bs)) allNext_refused
  | waitNotBusy limit =>
    exact turn_pseudo hs (turn_started (keeps_startPollBusy s _ _ _) nofun) fun _ => programOk_pseudo
  | sendCmd idx arg kind => exact allNext_ite (turn_commandRow hs _) allNext_refused
  | acmd idx arg kind => exact allNext_ite (turn_acmdRow hs _) allNext_refused
  | waitToken limit =>
    exact turn_pseudo hs (turn_started (keeps_startPollToken s _ _) nofun) fun _ => programOk_pseudo

/-! ### Engine operations and block-device operations -/

/-- An engine operation that a client requested by itself: a blocked one stays under way. -/
theorem turn_request (op : EngineOp) : Turn s (engineOp s.cur op s).request := by
  cases h : engineOp s.cur op s with
  | done u b => exact turn_complete
  | blocked u =>
    refine allNext_next.2 fun x hx => ?_
    have hout := engineOp_blocked_outside h
    have hctx : u.ctx = s.ctx := by simp only [State.ctx, hout.clients, hout.cur]
    exact ⟨(hs x (hctx ▸ hx)).congr (engineOp_blocked_owner h) hout.cur,
      State.pendingCall_congr hout.clients _⟩
  | refuse r => exact allNext_refused

omit hs in
theorem turn_execBusInit : Turn s (execBusInit s) := by
  unfold execBusInit
  cases h : busInitOp s with
  | done u b => exact turn_complete
  | blocked u => exact absurd h busInitOp_blocked
  | refuse r => exact allNext_refused

theorem turn_execReadResult (buf : Nat) : Turn s (execReadResult buf s) := by
  unfold execReadResult
  split
  · split
    · exact turn_complete
    · exact allNext_refused
  · exact turn_request hs .readTmp

theorem turn_execSetOutput (len bytes : Nat) : Turn s (execSetOutput len bytes s) := by
  unfold execSetOutput
  split
  · next bs _ => exact turn_request hs (.setOutput len bs)
  · exact allNext_refused

omit hs in
theorem turn_execStatus (unit : Nat) : Turn s (execStatus unit s) := by
  unfold execStatus
  split
  · exact turn_answer _
  · exact turn_answer _

/-- Whatever a client asks for, it holds the bus afterwards if its context says so. -/
theorem turn_exec (i : Instr) : Turn s (exec i s) := by
  cases i with
  | busInit => exact turn_execBusInit
  | acquire dev => exact turn_request hs (.acquire dev)
  | release => exact turn_request hs .release
  | setClock word => exact turn_request hs (.setClock word)
  | csAssert => exact turn_request hs .csAssert
  | csDeassert => exact turn_request hs .csDeassert
  | reset => exact turn_request hs .reset
  | setCommand len value => exact turn_request hs (.setCommand len value)
  | setAddress len value => exact turn_request hs (.setAddress len value)
  | setOutput len bytes => exact turn_execSetOutput hs len bytes
  | setOutputPattern len word => exact turn_request hs (.setOutputPattern len word)
  | configureExec beo dummy recv bei => exact turn_request hs (.configureExec beo dummy recv bei)
  | execute => exact turn_request hs .execute
  | wait => exact turn_request hs .wait
  | readResult buf => exact turn_execReadResult hs buf
  | sdInitialize dev => exact turn_initOperation hs dev _
  | sdRead dev first count buf => exact turn_readOperation hs dev first count buf _
  | sdWrite dev first count buf => exact turn_writeOperation hs dev first count buf _
  | sdErase dev first last => exact turn_execSdErase hs dev first last
  | sdReadCid dev buf => exact turn_registerOperation hs dev buf false
  | sdReadCsd dev buf => exact turn_registerOperation hs dev buf true
  | status unit => exact turn_execStatus unit
  | upInitialize unit => exact allNext_ite (turn_initOperation hs unit _) (turn_answer _)
  | upRead unit first count buf =>
    exact allNext_ite (turn_readOperation hs unit first count buf _) (turn_answer _)
  | upWrite unit first count buf =>
    exact allNext_ite (turn_writeOperation hs unit first count buf _) (turn_answer _)
  | blockCount unit => exact turn_execBlockCount hs unit
  | sectorSize unit => exact turn_answer _
  | eraseGranularity unit => exact turn_answer _
  | cmd0GoIdleState | cmd1SendOpCond | cmd8SendIfCond | cmd9SendCsd | cmd10SendCid | cmd12StopTransmission
  | cmd16SetBlocklen | cmd17ReadSingleBlock | cmd18ReadMultipleBlock | cmd24WriteBlock | cmd25WriteMultipleBlock
  | cmd32EraseWrBlkStart | cmd33EraseWrBlkEnd | cmd38Erase | cmd55AppCmd | cmd58ReadOcr =>
    exact turn_commandRow hs _
  | acmd23SetWrBlkEraseCount | acmd41SdV2Hcs | acmd41SdV1 => exact turn_acmdRow hs _
  | r1Status st => exact turn_execR1Status hs st
  | r3StatusOcr st o => exact turn_execR3StatusOcr hs st o
  | r7StatusEcho st x e => exact turn_execR7StatusEcho hs st x e
  | fillerNotBusy => exact turn_execFillerNotBusy hs
  | dataStartToken => exact turn_execDataStartToken hs
  | multiBlockWriteStartToken => exact turn_execMultiBlockWriteStartToken hs
  | multiBlockStopToken => exact turn_execMultiBlockStopToken hs
  | dataResponseAccepted x => exact turn_execDataResponseAccepted hs x
  | dataResponseRejected x n => exact turn_execDataResponseRejected hs x n

end

theorem turn_clientLeads {s t : State} (hs : s.TurnOk) (h : clientLeads s t) : Turn s (.next t) := by
  obtain ⟨i, hi⟩ | ⟨op, hop⟩ := h
  · exact hi ▸ turn_exec hs i
  · exact hop ▸ turn_execPseudo hs op

/-! ### The other clients -/

/-- An engine operation takes the bus from nobody but the client that runs it. -/
theorem Drives.owner {c d : Nat} {op : EngineOp} {s u : State} (h : Drives c s op u) (hdc : d ≠ c)
    (ho : s.lock.owner = some d) : u.lock.owner = some d := by
  cases h with
  | grant _ _ _ free => rw [free] at ho; cases ho
  | free owns => exact absurd (Option.some.inj (ho.symm.trans (owns_iff.1 owns).2)) hdc
  | _ => exact ho

/-- An engine operation of a client works on a lock that exists. -/
theorem Drives.noLock {c : Nat} {op : EngineOp} {s u : State} (h : Drives c s op u) : u.lock.ready = true := by
  cases h with
  | grant _ _ ready => exact ready
  | free owns | clock _ _ owns | chipSelect _ _ owns | field _ _ owns | start _ _ owns | look _ _ owns =>
    exact (owns_iff.1 owns).1

/-- What no step of a client does to the lock, while there is no owner before `bus_init`. -/
theorem Effect.lock_kept {init st : Bool} {s t : State} (h : Effect init st s t)
    (hn : s.lock.ready = false → s.lock.owner = none) :
    (t.lock.ready = false → t.lock.owner = none) ∧
      ∀ d, d ≠ s.cur → s.lock.owner = some d → t.lock.owner = some d := by
  cases h with
  | quiet h | session _ _ _ h | flag _ _ h | clear _ _ h =>
    rw [h.lock]
    exact ⟨hn, fun _ _ ho => ho⟩
  | engine op u b run h =>
    rw [h.lock]
    have hd := drives_of_done run
    exact ⟨fun hr => by simp [hd.noLock] at hr, fun d hdc => hd.owner hdc⟩
  | blocked op u run h =>
    rw [h.lock, engineOp_blocked_owner run]
    refine ⟨fun hr => hn ?_, fun _ _ ho => ho⟩
    obtain ⟨dev, rfl⟩ | ⟨-, rfl⟩ := engineOp_blocked run
    · obtain ⟨-, -, -, -, rfl⟩ := acquireOp_blocked.1 run
      exact hr
    · exact hr
  | lock u b run h =>
    obtain ⟨hr, rfl, -⟩ := busInitOp_done.1 run
    rw [h.lock, hn hr]
    exact ⟨nofun, nofun⟩
  | store _ base bs u run h =>
    obtain rfl := State.writeBuffer_some run
    rw [h.lock]
    exact ⟨hn, fun _ _ ho => ho⟩

/-! ### Every step -/

theorem HoldsBus.congr {s t : State} (h : HoldsBus s) (hl : t.lock = s.lock) (hc : t.clients = s.clients) :
    HoldsBus t where
  noLock := hl ▸ h.noLock
  legal := hc ▸ h.legal
  owner := by
    rw [hl, hc]
    exact h.owner

theorem State.ctx_of_client {s : State} {cl : Client} (h : s.clients[s.cur]? = some cl) : s.ctx = cl.ctx := by
  simp [State.ctx, h]

theorem HoldsBus.of_clientLeads {s t : State} (h : HoldsBus s) (ht : clientLeads s t) : HoldsBus t := by
  obtain ⟨init, he⟩ := ht.effect
  have hf := he.clientFrame
  obtain ⟨hnoLock, howner⟩ := he.lock_kept h.noLock
  have hturn : ∀ cl x, t.clients[s.cur]? = some cl → cl.ctx = some x → t.CtxOk x := fun cl x hcl hx =>
    (turn_clientLeads h.turnOk ht t rfl x ((State.ctx_of_client (by rw [hf.cur, hcl])).trans hx)).1
  refine ⟨hnoLock, fun c cl x hcl hx => ?_, fun c cl x hcl hx => ?_⟩
  · by_cases hc : c = s.cur
    · exact (hturn cl x (hc ▸ hcl) hx).legal
    · exact h.legal c cl x (hf.others c hc ▸ hcl) hx
  · by_cases hc : c = s.cur
    · have hh := (hturn cl x (hc ▸ hcl) hx).holds
      rwa [hf.cur, ← hc] at hh
    · exact (h.owner c cl x (hf.others c hc ▸ hcl) hx).imp_right (Or.imp_right (howner c hc))

/-- Settles O12: the client that takes the step holds what its context says (`turn_clientLeads`), and no other loses
the bus; the shifter touches neither the lock nor a client. -/
theorem operationsHoldTheBus : Obligations.OperationsHoldTheBus := by
  unfold Obligations.OperationsHoldTheBus
  intro s t h ht
  obtain rfl | rfl | ⟨c, r, -, hr⟩ := step_cases ht
  · have hsh := shifted_shifterStep s.nextAgent.2
    exact h.congr (hsh.lock.trans (by simp)) (hsh.clients.trans (by simp))
  · exact h.congr (by simp) (by simp)
  · have hu : HoldsBus (s.nextAgent.2.withCur c) := h.congr (by simp) (by simp)
    exact hu.of_clientLeads hr.clientLeads

end Sys2Proof.Machine

/-! PROOFS. A READY device has the high-capacity flag exactly when its type is SDHC (O13): what an initialization does to
the flag and the session of its device, and that it goes on agreeing with them. -/

namespace Sys2Proof.Machine

open Sys2Proof

/-! ### What `agrees` says at each stage of an initialization -/

/-- The steps I1 to I5 of an initialization: its device's flag and session are cleared, and no OCR is read yet. -/
def SeqPc.early : SeqPc → Bool
  | .i1Wake | .i2GoIdleState | .i3SendIfCond | .i4BringUp | .i4AppCmd | .i4SendOpCond | .i4Legacy | .i4Deadline
  | .i5ReadOcr => true
  | _ => false

section

variable {x x' : Ctx} {dv dv' : Device}

theorem agrees_iff_early (h : x.pc.early = true) :
    x.agrees dv ↔ dv.session = .uninitialized ∧ dv.hc = false ∧ x.cand ≠ some .sdhc := by
  unfold SeqPc.early at h
  split at h <;> simp_all [Ctx.agrees]

theorem agrees_opening (d : Nat) : (opening d .i0Acquire none).agrees dv := by
  simp [Ctx.agrees, opening, Ctx.engine, Ctx.start]

theorem agrees_advance {rest : List EngineOp} {b : Option (List Byte)} (h : x.agrees dv) :
    (x.advance rest b).agrees dv := h

theorem agrees_iFail (e : ErrKind) (h : dv.session = .uninitialized ∧ dv.hc = false) :
    (x.goto (.iFail e)).agrees dv := h

theorem agrees_leave (r : Res) (ops : List EngineOp) : (x.leave r ops).agrees dv := trivial

/-- A primitive leaves program and candidate alone; at the commands of I6 the flag must be 0 before one is begun. -/
theorem Ctx.Goes.agrees (h : x.Goes x') (hx : x.agrees dv)
    (hr : x.phase ≠ .ready ∨ x.pc ≠ .i6SetBlocklen ∨ dv.hc = false) : x'.agrees dv := by
  by_cases h6 : x.pc = .i6SetBlocklen
  · simp only [Ctx.agrees, h.pc, h.cand, h6] at hx ⊢
    obtain ⟨hse, hcand, hph⟩ := hx
    refine ⟨hse, hcand, fun _ => ?_⟩
    rcases hr with hr | hr | hr
    · exact hph hr
    · exact absurd h6 hr
    · exact hr
  · unfold Ctx.agrees at hx ⊢
    rw [h.pc, h.cand]
    split at hx <;> simp_all

/-- An initialization that does not own the bus has not begun to read or write its device. -/
theorem agrees_of_not_owner (h : x.opens ∨ x.released) (hx : x.agrees dv) : x.agrees dv' := by
  obtain ⟨hpc | hpc, -⟩ | ⟨-, r, hpc⟩ := h
  · simpa [Ctx.agrees, hpc] using hx
  · simp [Ctx.agrees, hpc]
  · simp [Ctx.agrees, hpc]

/-- Only the flag and the session count. -/
theorem agrees_congr (hhc : dv'.hc = dv.hc) (hse : dv'.session = dv.session) : x.agrees dv' ↔ x.agrees dv := by
  unfold Ctx.agrees
  rw [hhc, hse]

theorem settled_congr (hhc : dv'.hc = dv.hc) (hse : dv'.session = dv.session) : dv'.settled ↔ dv.settled := by
  unfold Device.settled
  rw [hhc, hse]

theorem settled_of_uninitialized (h : dv.session = .uninitialized) : dv.settled := by
  simp [Device.settled, h]

end

/-! ### One step of an initialization -/

/-- After a step of an initialization of device `d` it agrees with the device, and the device is settled; only the
owner of the bus has written it. -/
structure InitStep (d : Nat) (s t : State) : Prop where
  written : t.devices = s.devices ∨
    (s.lock.owner = some s.cur ∧ ∀ d', d' ≠ d → t.devices[d']? = s.devices[d']?)
  agrees : ∀ dv, t.devices[d]? = some dv → dv.settled ∧ ∀ x, t.ctx = some x → x.agrees dv

section

variable {d : Nat} {s u : State} {x x' : Ctx}

theorem initStep_write {f : Device → Device} (ho : s.lock.owner = some s.cur)
    (hother : ∀ d', d' ≠ d → u.devices[d']? = s.devices[d']?) (hd : u.devices[d]? = (s.devices[d]?).map f)
    (h : ∀ dv, s.devices[d]? = some dv → (f dv).settled ∧ x'.agrees (f dv)) :
    AllNext (InitStep d s) (u.goOn x') := by
  refine allNext_goOn.2 ⟨.inr ⟨ho, hother⟩, fun dv hdv => ?_⟩
  obtain ⟨dv0, hdv0, rfl⟩ := Option.map_eq_some_iff.1 (hd.symm.trans hdv)
  obtain ⟨hset, hag⟩ := h dv0 hdv0
  exact ⟨hset, fun y hy => State.withCtx_ctx_eq hy ▸ hag⟩

variable (hset : ∀ dv, s.devices[d]? = some dv → dv.settled)

include hset

theorem initStep_goOn (hu : u.devices = s.devices) (hx : ∀ dv, s.devices[d]? = some dv → x'.agrees dv) :
    AllNext (InitStep d s) (u.goOn x') :=
  allNext_goOn.2 ⟨.inl hu, fun dv hdv =>
    have hdv' : s.devices[d]? = some dv := hu ▸ hdv
    ⟨hset dv hdv', fun _ hy => State.withCtx_ctx_eq hy ▸ hx dv hdv'⟩⟩

theorem initStep_complete (r : Result) : AllNext (InitStep d s) (.next (s.complete r)) :=
  allNext_next.2 ⟨.inl rfl, fun dv hdv => ⟨hset dv hdv, fun y hy => by simp at hy⟩⟩

/-- A primitive writes no device. -/
theorem Keeps.initStep {P : Ctx → Prop} {o : Outcome} (h : Keeps P s o) (he : AllNext (Effect false true s) o)
    (hP : ∀ y dv, P y → s.devices[d]? = some dv → y.agrees dv) : AllNext (InitStep d s) o := by
  intro t ht
  have hdev := (he t ht).devices_eq
  refine ⟨.inl hdev, fun dv hdv => ?_⟩
  have hdv' : s.devices[d]? = some dv := hdev ▸ hdv
  obtain ⟨-, -, hy⟩ := h t ht
  exact ⟨hset dv hdv', fun y hyt => hP y dv (hy y hyt).1 hdv'⟩

/-- A command of a program, outside I6 or with the flag 0. -/
theorem initStep_startCommand (c : Command) (hag : ∀ dv, s.devices[d]? = some dv → x.agrees dv)
    (h6 : ∀ dv, s.devices[d]? = some dv → x.pc ≠ .i6SetBlocklen ∨ dv.hc = false) :
    AllNext (InitStep d s) (startCommand s x c) :=
  (keeps_startCommand s x c).initStep hset (effect_startCommand s x c) fun _ dv hy hdv =>
    hy.agrees (hag dv hdv) (.inr (h6 dv hdv))

/-- One engine operation of an initialization: the program is where it was. -/
theorem initStep_runMicro {op : EngineOp} {rest : List EngineOp}
    (hag : ∀ dv, s.devices[d]? = some dv → x.agrees dv) : AllNext (InitStep d s) (runMicro s x op rest) := by
  unfold runMicro
  split
  · next h => exact initStep_goOn hset (engineOp_done_outside h).devices fun dv hdv => agrees_advance (hag dv hdv)
  · next h => exact initStep_goOn hset (engineOp_blocked_outside h).devices hag
  · exact allNext_refused

/-! ### I1 to I5 -/

section

variable (hE : ∀ dv, s.devices[d]? = some dv → dv.session = .uninitialized ∧ dv.hc = false ∧ x.cand ≠ some .sdhc)

include hE

/-- From one of the steps I1 to I5 to another, with a candidate that is not SDHC. -/
theorem initStep_early (hu : u.devices = s.devices) (hpc : x'.pc.early = true)
    (hcand : x.cand ≠ some .sdhc → x'.cand ≠ some .sdhc) : AllNext (InitStep d s) (u.goOn x') :=
  initStep_goOn hset hu fun dv hdv =>
    (agrees_iff_early hpc).2 ⟨(hE dv hdv).1, (hE dv hdv).2.1, hcand (hE dv hdv).2.2⟩

theorem initStep_failInit (hu : u.devices = s.devices) (y : Ctx) (e : ErrKind) :
    AllNext (InitStep d s) (failInit u y e) :=
  initStep_goOn hset hu fun dv hdv => agrees_iFail e ⟨(hE dv hdv).1, (hE dv hdv).2.1⟩

theorem initStep_toBlocklen : AllNext (InitStep d s) (s.goOn (x.goto .i6SetBlocklen)) :=
  initStep_goOn hset rfl fun dv hdv => by
    obtain ⟨hse, hhc, hcand⟩ := hE dv hdv
    simp [Ctx.agrees, Ctx.goto, hse, hhc, hcand]

theorem initStep_command (hpc : x.pc.early = true) (c : Command) : AllNext (InitStep d s) (startCommand s x c) :=
  initStep_startCommand hset c (fun dv hdv => (agrees_iff_early hpc).2 (hE dv hdv)) fun _ _ =>
    .inl fun h => by simp [h, SeqPc.early] at hpc

theorem initStep_commandRow (ha : s.awaits x .ready) (hpc : x.pc.early = true) (c : Command) :
    AllNext (InitStep d s) (commandRow c s) := by
  rw [commandRow_ready ha]
  exact initStep_command hset hE hpc c

theorem initStep_initUnsupported (sw : Bool) : AllNext (InitStep d s) (initUnsupported s x sw) :=
  allNext_ite (initStep_early hset hE rfl rfl fun _ => nofun) (initStep_failInit hset hE rfl x _)

theorem initStep_initAttemptEnd (p : PrimResult) : AllNext (InitStep d s) (initAttemptEnd s x p) := by
  unfold initAttemptEnd
  split
  · exact allNext_ite (initStep_early hset hE rfl rfl id)
      (allNext_ite (initStep_early hset hE rfl rfl id) (initStep_initUnsupported hset hE _))
  · exact initStep_failInit hset hE rfl x _
  · exact allNext_refused

theorem initStep_initAcmd {r : Option PrimResult} (hpc : x.pc.early = true) :
    AllNext (InitStep d s) (initAcmd s x r) := by
  unfold initAcmd acmd
  split
  · split
    · exact initStep_command hset hE hpc _
    · exact allNext_refused
  · split
    · split
      · exact allNext_ite (initStep_initUnsupported hset hE _) (initStep_early hset hE rfl rfl id)
      · exact initStep_initUnsupported hset hE _
      · exact allNext_refused
    · exact initStep_initAttemptEnd hset hE _

theorem initStep_initIfCondReply (r1 : Byte) : AllNext (InitStep d s) (initIfCondReply s x r1) := by
  unfold initIfCondReply
  split
  · exact initStep_early hset hE rfl rfl fun _ => nofun
  · split
    · exact allNext_refused
    · exact allNext_ite (initStep_early hset hE rfl rfl fun _ => nofun) (initStep_failInit hset hE rfl x _)

theorem initStep_initDeadline : AllNext (InitStep d s) (initDeadline s x) := by
  unfold initDeadline
  split
  · exact allNext_refused
  · refine allNext_ite (initStep_failInit hset hE (by simp [State.deadline]) _ _)
      (initStep_early hset hE (by simp [State.deadline]) ?_ id)
    unfold attemptStep
    split <;> rfl

/-- I5 writes the flag of a high-capacity card, and makes SDHC the candidate (R305). -/
theorem initStep_initOcrReply (ho : s.lock.owner = some s.cur) (r1 : Byte) :
    AllNext (InitStep d s) (initOcrReply d s x r1) := by
  unfold initOcrReply
  split
  · split
    · exact allNext_refused
    · refine allNext_ite (initStep_write ho (fun d' hd' => changeAt_other _ _ hd') (changeAt_same _ _ _)
        fun dv hdv => ?_) (initStep_toBlocklen hset hE)
      have hse := (hE dv hdv).1
      exact ⟨settled_of_uninitialized hse, by simp [Ctx.agrees, Ctx.goto, hse]⟩
  · exact initStep_failInit hset hE rfl x _

end

/-! ### The whole program -/

omit hset in
/-- I0 clears the flag and the session (R291). -/
theorem initStep_initClear (ho : s.lock.owner = some s.cur)
    (hcand : ∀ dv, s.devices[d]? = some dv → x.cand ≠ some .sdhc) : AllNext (InitStep d s) (initClear d s x) := by
  refine initStep_write (f := fun dv => { dv with hc := false, session := .uninitialized }) ho
    (fun d' hd' => ?_) ?_ fun dv hdv => ?_
  · exact (changeAt_other _ _ hd').trans (changeAt_other _ _ hd')
  · show (changeAt _ d (changeAt _ d s.devices))[d]? = _
    rw [changeAt_same, changeAt_same, Option.map_map]
    rfl
  · exact ⟨settled_of_uninitialized rfl, (agrees_iff_early rfl).2 ⟨rfl, rfl, hcand dv hdv⟩⟩

theorem initStep_initBlocklen (ha : s.awaits x .ready) (hpc : x.pc = .i6SetBlocklen)
    (hag : ∀ dv, s.devices[d]? = some dv → x.agrees dv) : AllNext (InitStep d s) (initBlocklen d s x) := by
  unfold initBlocklen
  split
  · exact allNext_refused
  · next dv hdv =>
    split
    · refine initStep_goOn hset rfl fun dv' hdv' => ?_
      have h := hag dv' hdv'
      simp only [Ctx.agrees, hpc] at h
      exact ⟨h.1, h.2.1⟩
    · next hhc =>
      rw [execCmd16SetBlocklen, commandRow_ready ha]
      refine initStep_startCommand hset _ hag fun dv' hdv' => .inr ?_
      cases hdv.symm.trans hdv'
      exact Bool.eq_false_of_not_eq_true hhc

/-- I6, SET_BLOCKLEN answered: the flag was 0 when the command was begun. -/
theorem initStep_blocklenDone (hpc : x.pc = .i6SetBlocklen) (hr : x.phase ≠ .ready)
    (hag : ∀ dv, s.devices[d]? = some dv → x.agrees dv) :
    AllNext (InitStep d s) (s.goOn (x.goto .i7Ready)) ∧ ∀ e, AllNext (InitStep d s) (failInit s x e) := by
  have h : ∀ dv, s.devices[d]? = some dv →
      dv.session = .uninitialized ∧ (dv.hc = true ↔ x.cand = some .sdhc) ∧ dv.hc = false := fun dv hdv => by
    have hag := hag dv hdv
    simp only [Ctx.agrees, hpc] at hag
    exact ⟨hag.1, hag.2.1, hag.2.2 hr⟩
  exact ⟨initStep_goOn hset rfl fun dv hdv => ⟨(h dv hdv).1, (h dv hdv).2.1⟩,
    fun e => initStep_goOn hset rfl fun dv hdv => agrees_iFail e ⟨(h dv hdv).1, (h dv hdv).2.2⟩⟩

omit hset in
/-- I7 writes the session READY with a type that agrees with the flag (R309). -/
theorem initStep_initReady (ho : s.lock.owner = some s.cur) (hpc : x.pc = .i7Ready)
    (hag : ∀ dv, s.devices[d]? = some dv → x.agrees dv) : AllNext (InitStep d s) (initReady d s x) := by
  unfold initReady
  split
  · next dv card hdv hcand =>
    refine initStep_write ho (fun d' hd' => changeAt_other _ _ hd') (changeAt_same _ _ _)
      fun dv' hdv' => ⟨?_, agrees_leave _ _⟩
    have h := hag dv' hdv'
    simp only [Ctx.agrees, hpc, hcand, Option.some.injEq] at h
    exact h.2
  · exact allNext_refused
  · exact allNext_refused

omit hset in
/-- IF writes the session FAILED, with the flag 0 (R310). -/
theorem initStep_initFail (ho : s.lock.owner = some s.cur) {e : ErrKind} (hpc : x.pc = .iFail e)
    (hag : ∀ dv, s.devices[d]? = some dv → x.agrees dv) : AllNext (InitStep d s) (initFail d e s x) := by
  unfold initFail
  split
  · exact allNext_refused
  · refine initStep_write ho (fun d' hd' => changeAt_other _ _ hd') (changeAt_same _ _ _)
      fun dv' hdv' => ⟨?_, agrees_leave _ _⟩
    have h := hag dv' hdv'
    simp only [Ctx.agrees, hpc] at h
    exact h.2

set_option maxRecDepth 8000 in
theorem initStep_initProgram (deliver : Res → Result) {r : Option PrimResult} (ha : s.awaits x (phaseOf r))
    (ho : (∀ res, x.pc ≠ .leaving res) → s.lock.owner = some s.cur)
    (hag : ∀ dv, s.devices[d]? = some dv → x.agrees dv) :
    AllNext (InitStep d s) (initProgram d deliver s x r) := by
  have hE {pc : SeqPc} (hpc : x.pc = pc) (he : pc.early = true) : ∀ dv, s.devices[d]? = some dv →
      dv.session = .uninitialized ∧ dv.hc = false ∧ x.cand ≠ some .sdhc :=
    fun dv hdv => (agrees_iff_early (hpc ▸ he)).1 (hag dv hdv)
  unfold initProgram
  split
  · next hpc =>
    unfold initAcquired
    split
    · exact allNext_refused
    · refine allNext_ite (initStep_goOn hset rfl fun dv hdv => ?_) allNext_refused
      have h := hag dv hdv
      simp only [Ctx.agrees, hpc] at h
      exact h
  · next hpc =>
    refine initStep_initClear (ho (by simp [hpc])) fun dv hdv => ?_
    have h := hag dv hdv
    simp only [Ctx.agrees, hpc] at h
    exact h
  · next hpc => exact initStep_early hset (hE hpc rfl) rfl rfl id
  · next hpc => exact initStep_early hset (hE hpc rfl) rfl rfl id
  · next hpc => exact initStep_commandRow hset (hE hpc rfl) ha (hpc ▸ rfl) _
  · next hpc =>
    exact allNext_ite (initStep_early hset (hE hpc rfl) rfl rfl id)
      (initStep_failInit hset (hE hpc rfl) rfl x _)
  · next hpc => exact initStep_failInit hset (hE hpc rfl) rfl x _
  · next hpc => exact initStep_commandRow hset (hE hpc rfl) ha (hpc ▸ rfl) _
  · next hpc => exact initStep_initIfCondReply hset (hE hpc rfl) _
  · next hpc => exact initStep_failInit hset (hE hpc rfl) rfl x _
  · next hpc => exact initStep_early hset (hE hpc rfl) (by simp) rfl id
  · next hpc => exact initStep_initAcmd hset (hE hpc rfl) (hpc ▸ rfl)
  · next hpc => exact initStep_initAcmd hset (hE hpc rfl) (hpc ▸ rfl)
  · next hpc => exact initStep_commandRow hset (hE hpc rfl) ha (hpc ▸ rfl) _
  · next hpc => exact initStep_initAttemptEnd hset (hE hpc rfl) _
  · next hpc => exact initStep_initDeadline hset (hE hpc rfl)
  · next hpc =>
    exact allNext_ite (initStep_commandRow hset (hE hpc rfl) ha (hpc ▸ rfl) _)
      (initStep_toBlocklen hset (hE hpc rfl))
  · next hpc => exact initStep_initOcrReply hset (hE hpc rfl) (ho (by simp [hpc])) _
  · next hpc => exact initStep_failInit hset (hE hpc rfl) rfl x _
  · next hpc => exact initStep_initBlocklen hset ha hpc hag
  · next hpc =>
    obtain ⟨hdone, hfail⟩ := initStep_blocklenDone hset hpc (by simp [ha.2.2, phaseOf]) hag
    exact allNext_ite hdone (hfail _)
  · next hpc => exact (initStep_blocklenDone hset hpc (by simp [ha.2.2, phaseOf]) hag).2 _
  · next hpc => exact initStep_initReady (ho (by simp [hpc])) hpc hag
  · next hpc => exact initStep_initFail (ho (by simp [hpc])) hpc hag
  · exact initStep_complete hset _
  · exact allNext_refused

/-- One step of an initialization. -/
theorem initStep_initOperation (deliver : Res → Result) (hs : s.TurnOk)
    (hag : ∀ x dv, s.ctx = some x → s.devices[d]? = some dv → x.agrees dv) :
    AllNext (InitStep d s) (initOperation d deliver s) := by
  unfold initOperation operation
  split
  · exact initStep_runMicro hset fun dv _ => agrees_opening d
  · next x hx =>
    unfold runProgram
    split
    · exact initStep_runMicro hset (hag x · hx)
    · next hm =>
      have ho : (∀ res, x.pc ≠ .leaving res) → s.lock.owner = some s.cur := (hs x hx).owner hm
      split
      · next hp => exact initStep_initProgram hset deliver (r := none) ⟨hx, hm, hp⟩ ho (hag x · hx)
      · next r hp => exact initStep_initProgram hset deliver (r := some r) ⟨hx, hm, hp⟩ ho (hag x · hx)
      · next hready _ =>
        exact (keeps_primitiveStep hx hm).initStep hset (effect_primitiveStep s x (.inl rfl)) fun y dv hy hdv =>
          hy.agrees (hag x dv hx hdv) (.inl hready)

end

/-! ### Every step -/

/-- The device that an instruction initializes; none where it does something else. -/
def Instr.initializing : Instr → Option Nat
  | .sdInitialize d | .upInitialize d => some d
  | _ => none

theorem initializing_eq_none {i : Instr} : Instr.initializing i = none ↔ initializes i = false := by
  cases i <;> simp [Instr.initializing, initializes]

/-- What the machine's `Client.initializing` is, by the request that stands first. -/
theorem Client.initializing_encoded {cl : Client} {call : Call} {i : Instr}
    (h : cl.calls.head? = some (.encoded call)) (hi : decodeCall call = .ok i) :
    cl.initializing = Instr.initializing i := by
  obtain ⟨rest, hcalls⟩ := List.head?_eq_some_iff.1 h
  unfold Client.initializing
  simp only [hcalls, hi]
  cases i <;> rfl

theorem Client.initializing_pseudo {cl : Client} {op : PseudoOp} (h : cl.calls.head? = some (.pseudo op)) :
    cl.initializing = none := by
  obtain ⟨rest, hcalls⟩ := List.head?_eq_some_iff.1 h
  simp [Client.initializing, hcalls]

/-- Every device of the state after is one of the state before with the same flag and session. -/
theorem FlagInv.congr {s t : State} (h : FlagInv s) (hc : t.clients = s.clients)
    (hd : ∀ (d : Nat) (dv' : Device), t.devices[d]? = some dv' →
      ∃ dv : Device, s.devices[d]? = some dv ∧ dv'.hc = dv.hc ∧ dv'.session = dv.session) : FlagInv t where
  settled := fun d dv' hdv' => by
    obtain ⟨dv, hdv, hhc, hse⟩ := hd d dv' hdv'
    exact (settled_congr hhc hse).2 (h.settled d dv hdv)
  running := fun c cl x d dv' hcl hx hi hdv' => by
    obtain ⟨dv, hdv, hhc, hse⟩ := hd d dv' hdv'
    exact (agrees_congr hhc hse).2 (h.running c cl x d dv (hc ▸ hcl) hx hi hdv)

/-- A step of a client keeps what the flags say, if its own context agrees with its device afterwards and if it writes
no device without owning the bus. -/
theorem FlagInv.of_frame {s t : State} (h : FlagInv s) (hb : HoldsBus s) (hf : ClientFrame s t)
    (hset : ∀ (d : Nat) (dv : Device), t.devices[d]? = some dv → dv.settled)
    (hself : ∀ (cl : Client) (x : Ctx) (d : Nat) (dv : Device), t.clients[s.cur]? = some cl → cl.ctx = some x →
      cl.initializing = some d → t.devices[d]? = some dv → x.agrees dv)
    (hw : ∀ d : Nat, t.devices[d]? = s.devices[d]? ∨ s.lock.owner = some s.cur) : FlagInv t where
  settled := hset
  running := fun c cl x d dv hcl hx hi hdv => by
    by_cases hc : c = s.cur
    · exact hself cl x d dv (hc ▸ hcl) hx hi hdv
    · have hcl' : s.clients[c]? = some cl := hf.others c hc ▸ hcl
      rcases hw d with hsame | ho
      · exact h.running c cl x d dv hcl' hx hi (hsame ▸ hdv)
      · have hlt : d < s.devices.length := hf.devices ▸ (List.getElem?_eq_some_iff.1 hdv).1
        refine agrees_of_not_owner ?_
          (h.running c cl x d s.devices[d] hcl' hx hi (List.getElem?_eq_getElem hlt))
        rcases hb.owner c cl x hcl' hx with hopens | hreleased | howner
        · exact .inl hopens
        · exact .inr hreleased
        · exact absurd (Option.some.inj (howner.symm.trans ho)) hc

theorem State.pendingCall_of_client {s : State} {c : Nat} {cl : Client} (h : s.clients[c]? = some cl) :
    s.pendingCall c = cl.calls.head? := by
  simp [State.pendingCall, h]

theorem initStep_exec {d : Nat} {s : State} {i : Instr} (hi : Instr.initializing i = some d)
    (hset : ∀ dv, s.devices[d]? = some dv → dv.settled) (hs : s.TurnOk)
    (hag : ∀ x dv, s.ctx = some x → s.devices[d]? = some dv → x.agrees dv) :
    AllNext (InitStep d s) (exec i s) := by
  cases i with
  | sdInitialize dev =>
    cases hi
    exact initStep_initOperation hset _ hs hag
  | upInitialize unit =>
    cases hi
    exact allNext_ite (initStep_initOperation hset _ hs hag)
      (allNext_ite (initStep_complete hset _) allNext_refused)
  | _ => cases hi

/-- What a client asks for keeps what the flags say. -/
theorem FlagInv.of_leads {s t : State} {r : Request} (h : FlagInv s) (hb : HoldsBus s)
    (hp : s.pendingCall s.cur = some r) (ht : r.leads s t) : FlagInv t := by
  have hf := ht.clientLeads.frame
  have hhead : ∀ (cl : Client) (x : Ctx), t.clients[s.cur]? = some cl → cl.ctx = some x →
      cl.calls.head? = some r := fun cl x hcl hx => by
    have hx' : t.ctx = some x := (State.ctx_of_client (hf.cur ▸ hcl)).trans hx
    have hgoes := (turn_clientLeads hb.turnOk ht.clientLeads t rfl x hx').2
    rw [← State.pendingCall_of_client hcl, hgoes, hp]
  have hquiet (hdev : t.devices = s.devices)
      (hno : ∀ cl : Client, cl.calls.head? = some r → cl.initializing = none) : FlagInv t :=
    h.of_frame hb hf (hdev ▸ h.settled)
      (fun cl x d dv hcl hx hi _ => by simp [hno cl (hhead cl x hcl hx)] at hi)
      fun d => .inl (congrArg (·[d]?) hdev)
  obtain ⟨call, i, rfl, hi, he⟩ | ⟨op, rfl, hop⟩ := ht
  · have hcall (cl : Client) (hcl : cl.calls.head? = some (.encoded call)) :
        cl.initializing = Instr.initializing i := Client.initializing_encoded hcl hi
    cases hd : Instr.initializing i with
    | none =>
      have heff := exec_effect i s t true (fun _ => rfl) (.inl rfl) he
      rw [initializing_eq_none.1 hd] at heff
      exact hquiet heff.devices_eq fun cl hcl => (hcall cl hcl).trans hd
    | some d =>
      have hag : ∀ x dv, s.ctx = some x → s.devices[d]? = some dv → x.agrees dv := fun x dv hx hdv => by
        unfold State.ctx at hx
        split at hx
        · next cl hcl =>
          exact h.running _ cl x d dv hcl hx
            ((hcall cl ((State.pendingCall_of_client hcl).symm.trans hp)).trans hd) hdv
        · cases hx
      have hstep := initStep_exec hd (h.settled d) hb.turnOk hag t he
      have hother (d' : Nat) (hne : d' ≠ d) : t.devices[d']? = s.devices[d']? := by
        obtain hsame | ⟨-, hsame⟩ := hstep.written
        · rw [hsame]
        · exact hsame d' hne
      refine h.of_frame hb hf (fun d' dv hdv => ?_) (fun cl x d' dv hcl hx hi' hdv => ?_) fun d' => ?_
      · by_cases hne : d' = d
        · exact (hstep.agrees dv (hne ▸ hdv)).1
        · exact h.settled d' dv (hother d' hne ▸ hdv)
      · cases ((hcall cl (hhead cl x hcl hx)).trans hd).symm.trans hi'
        exact (hstep.agrees dv hdv).2 x ((State.ctx_of_client (hf.cur ▸ hcl)).trans hx)
      · exact hstep.written.imp (fun hsame => congrArg (·[d']?) hsame) And.left
  · exact hquiet (execPseudo_effect op s t true (.inl rfl) hop).devices_eq fun cl hcl =>
      Client.initializing_pseudo hcl

/-- Settles O13: a step of an initialization agrees with its device (`InitStep`) and writes it only as the owner of
the bus; no other step writes a flag or a session. -/
theorem flagAgreesWithType : Obligations.FlagAgreesWithType := by
  unfold Obligations.FlagAgreesWithType
  intro s t hb h ht
  obtain rfl | rfl | ⟨c, r, hp, hr⟩ := step_cases ht
  · have hsh := shifted_shifterStep s.nextAgent.2
    refine h.congr (hsh.clients.trans (by simp)) fun d dv' hdv' => ?_
    have hlt : d < s.devices.length := by
      simpa [hsh.count] using (List.getElem?_eq_some_iff.1 hdv').1
    obtain ⟨w, hw, -⟩ := hsh.device d s.devices[d] (by simp)
    cases hw.symm.trans hdv'
    exact ⟨s.devices[d], List.getElem?_eq_getElem hlt, rfl, rfl⟩
  · exact h.congr (by simp) fun d dv' hdv' => ⟨dv', by simpa using hdv', rfl, rfl⟩
  · have hb' : HoldsBus (s.nextAgent.2.withCur c) := hb.congr (by simp) (by simp)
    have h' : FlagInv (s.nextAgent.2.withCur c) := h.congr (by simp) fun d dv' hdv' =>
      ⟨dv', by simpa using hdv', rfl, rfl⟩
    exact h'.of_leads hb' ((State.pendingCall_congr (by simp) c).trans hp) hr

end Sys2Proof.Machine

/-! PROOFS. Sequencer operations by their programs: their steps inside a primitive (O46), their results (O47), their
first steps (O45), and the bring-up loop of an initialization (O51). -/

namespace Sys2Proof.Machine

open Sys2Proof

/-! ### Which program an operation runs -/

/-- The program of a sequencer operation (R290, R330, R338, R355, R370, R371, R401 to R404). -/
def sequencerProgram : Instr → Program
  | .sdInitialize d => initProgram d .seq
  | .upInitialize d => initProgram d Result.ofInit
  | .sdRead d first count buf => readProgram d first count buf .seq
  | .upRead d first count buf => readProgram d first count buf Result.ofIo
  | .sdWrite d first count buf => writeProgram d first count buf .seq
  | .upWrite d first count buf => writeProgram d first count buf Result.ofIo
  | .sdErase d first last => eraseProgram d first last
  | .sdReadCid d buf => registerProgram d false (storeRegister buf) deliverRegister
  | .sdReadCsd d buf => registerProgram d true (storeRegister buf) deliverRegister
  | .blockCount d => registerProgram d true keepRegister deliverCapacity
  | _ => fun _ _ _ => .refused .outOfPhase

section

variable {i : Instr} {s : State} {d : Nat} {x0 x : Ctx} {dv : Device}

theorem State.validUnit_of_device (hd : s.devices[d]? = some dv) : s.validUnit d = true :=
  decide_eq_true (List.getElem?_eq_some_iff.1 hd).1

theorem Result.ofInit_ne_seq : Result.ofInit ≠ Result.seq := fun h => by cases congrFun h .ok

theorem Result.ofIo_ne_seq : Result.ofIo ≠ Result.seq := fun h => by cases congrFun h .ok

/-- A sequencer operation runs its program; a block-device operation of a unit that is not valid answers instead. -/
theorem exec_sequencer_or (h : sequencerStart i = some (d, x0)) :
    exec i s = operation x0 (sequencerProgram i) s ∨
    s.validUnit d = false ∧ delivered i ≠ some Result.seq ∧ ∃ r, exec i s = answer s r := by
  cases i <;> simp only [sequencerStart, Option.ite_none_left_eq_some, Option.some.injEq, Prod.mk.injEq,
    reduceCtorEq] at h
  case sdInitialize | sdErase | sdReadCid | sdReadCsd =>
    obtain ⟨rfl, rfl⟩ := h
    exact .inl rfl
  case sdRead | sdWrite =>
    obtain ⟨hcount, rfl, rfl⟩ := h
    exact .inl (if_neg hcount)
  case upInitialize u =>
    obtain ⟨rfl, rfl⟩ := h
    cases hv : s.validUnit u
    · exact .inr ⟨rfl, by simpa [delivered] using Result.ofInit_ne_seq, _, if_neg (by simp [hv])⟩
    · exact .inl (if_pos hv)
  case blockCount u =>
    obtain ⟨rfl, rfl⟩ := h
    cases hv : s.validUnit u
    · exact .inr ⟨rfl, nofun, _, if_neg (by simp [hv])⟩
    · exact .inl (if_pos hv)
  case upRead u _ _ _ | upWrite u _ _ _ =>
    obtain ⟨hcount, rfl, rfl⟩ := h
    cases hv : s.validUnit u
    · exact .inr ⟨rfl, by simpa [delivered] using Result.ofIo_ne_seq, _, if_neg (by simp [hv])⟩
    · exact .inl ((if_pos hv).trans (if_neg hcount))

/-- A sequencer operation of a device that exists runs its program. -/
theorem exec_sequencer (h : sequencerStart i = some (d, x0)) (hd : s.devices[d]? = some dv) :
    exec i s = operation x0 (sequencerProgram i) s := by
  rcases exec_sequencer_or h with heq | ⟨hv, -⟩
  · exact heq
  · cases hv.symm.trans (State.validUnit_of_device hd)

theorem exec_running (h : sequencerStart i = some (d, x0)) (hd : s.devices[d]? = some dv) (hx : s.ctx = some x) :
    exec i s = runProgram (sequencerProgram i) s x := by
  simp only [exec_sequencer h hd, operation, hx]

theorem runProgram_micro {prog : Program} {op : EngineOp} {rest : List EngineOp} (hm : x.micro = op :: rest) :
    runProgram prog s x = runMicro s x op rest := by simp only [runProgram, hm]

theorem runProgram_awaits {prog : Program} {r : Option PrimResult} (ha : s.awaits x (phaseOf r)) :
    runProgram prog s x = prog s x r := by
  obtain ⟨-, hm, hp⟩ := ha
  cases r <;> simp only [runProgram, hm, hp, phaseOf]

theorem runProgram_primitive {prog : Program} (hm : x.micro = []) (hr : x.phase ≠ .ready)
    (hd : ∀ r, x.phase ≠ .done r) : runProgram prog s x = primitiveStep s x := by
  unfold runProgram
  rw [hm]
  cases hp : x.phase with
  | ready => exact absurd hp hr
  | done r => exact absurd hp (hd r)
  | _ => rfl

/-- Where its program gets control, an operation's step is the program's. -/
theorem exec_awaits {r : Option PrimResult} (h : sequencerStart i = some (d, x0)) (hd : s.devices[d]? = some dv)
    (ha : s.awaits x (phaseOf r)) : exec i s = sequencerProgram i s x r :=
  (exec_running h hd ha.1).trans (runProgram_awaits ha)

/-! ### A run of engine operations (O46) -/

/-- What engine operation is next, and what it does, is no matter of the context. -/
theorem engineOp_withCtx {c : Nat} {op : EngineOp} {u : State} {b : Option (List Byte)}
    (h : engineOp c op s = .done u b) : engineOp c op (s.withCtx x) = .done (u.withCtx x) b := by
  cases op with
  | acquire dev =>
    obtain ⟨hr, hf, dv, hd, rfl, rfl⟩ := acquireOp_done.1 h
    exact acquireOp_done.2 ⟨hr, hf, dv, hd, rfl, rfl⟩
  | release =>
    obtain ⟨ho, hb, rfl, rfl⟩ := releaseOp_done.1 h
    exact releaseOp_done.2 ⟨ho, hb, rfl, rfl⟩
  | setClock w =>
    obtain ⟨ho, hb, rfl, rfl⟩ := setClockOp_done.1 h
    exact setClockOp_done.2 ⟨ho, hb, rfl, rfl⟩
  | csAssert =>
    obtain ⟨ho, hb, hcs, rfl, rfl⟩ := driveCs_done.1 h
    exact driveCs_done.2 ⟨ho, hb, hcs, rfl, rfl⟩
  | csDeassert =>
    obtain ⟨ho, hb, hcs, rfl, rfl⟩ := driveCs_done.1 h
    exact driveCs_done.2 ⟨ho, hb, hcs, rfl, rfl⟩
  | reset =>
    obtain ⟨ho, hb, rfl, rfl⟩ := resetOp_done.1 h
    exact resetOp_done.2 ⟨ho, hb, rfl, rfl⟩
  | setCommand len v =>
    obtain ⟨ho, hb, hv, rfl, rfl⟩ := setCommandOp_done.1 h
    exact setCommandOp_done.2 ⟨ho, hb, hv, rfl, rfl⟩
  | setAddress len v =>
    obtain ⟨ho, hb, hv, rfl, rfl⟩ := setAddressOp_done.1 h
    exact setAddressOp_done.2 ⟨ho, hb, hv, rfl, rfl⟩
  | setOutput len bs =>
    obtain ⟨ho, hb, hv, rfl, rfl⟩ := setOutputOp_done.1 h
    exact setOutputOp_done.2 ⟨ho, hb, hv, rfl, rfl⟩
  | setOutputPattern len w =>
    obtain ⟨ho, hb, hv, rfl, rfl⟩ := setOutputPatternOp_done.1 h
    exact setOutputPatternOp_done.2 ⟨ho, hb, hv, rfl, rfl⟩
  | configureExec beo dummy recv bei =>
    obtain ⟨ho, hb, hv, rfl, rfl⟩ := configureExecOp_done.1 h
    exact configureExecOp_done.2 ⟨ho, hb, hv, rfl, rfl⟩
  | execute =>
    obtain ⟨ho, hb, bo, cm, bits, dl, il, hbo, hcm, hp, hbe, rfl, rfl⟩ := executeOp_done.1 h
    exact executeOp_done.2 ⟨ho, hb, bo, cm, bits, dl, il, hbo, hcm, hp, hbe, rfl, rfl⟩
  | wait =>
    obtain ⟨ho, hb, rfl, rfl⟩ := waitOp_done.1 h
    exact waitOp_done.2 ⟨ho, hb, rfl, rfl⟩
  | readTmp =>
    obtain ⟨ho, hb, rfl, n, bs, hn, hbs, rfl⟩ := readResultOp_done.1 h
    exact readResultOp_done.2 ⟨ho, hb, rfl, n, bs, hn, hbs, rfl⟩

theorem runOps_cons {c : Nat} {op : EngineOp} {ops : List EngineOp} {t : State} :
    runOps c (op :: ops) s = some t ↔ ∃ u b, engineOp c op s = .done u b ∧ runOps c ops u = some t := by
  simp only [runOps]
  split
  · next u b h => simp [h]
  · next h => exact ⟨nofun, fun ⟨u, b, hop, _⟩ => absurd hop (h u b)⟩

theorem runOps_withCtx {c : Nat} {ops : List EngineOp} {t : State} (h : runOps c ops s = some t) :
    runOps c ops (s.withCtx x) = some (t.withCtx x) := by
  induction ops generalizing s with
  | nil =>
    cases h
    rfl
  | cons op ops ih =>
    obtain ⟨u, b, hop, hrest⟩ := runOps_cons.1 h
    exact runOps_cons.2 ⟨u.withCtx x, b, engineOp_withCtx hop, ih hrest⟩

theorem changeAt_changeAt {α : Type} (f g : α → α) (n : Nat) (l : List α) :
    changeAt f n (changeAt g n l) = changeAt (f ∘ g) n l := by
  apply List.ext_getElem?
  intro m
  by_cases hm : m = n
  · rw [hm, changeAt_same, changeAt_same, changeAt_same, Option.map_map]
  · rw [changeAt_other _ _ hm, changeAt_other _ _ hm, changeAt_other _ _ hm]

theorem State.withCtx_withCtx (x y : Ctx) : (s.withCtx x).withCtx y = s.withCtx y :=
  congrArg s.withClients (changeAt_changeAt _ _ s.cur s.clients)

theorem State.withCtx_self (hx : s.ctx = some x) : s.withCtx x = s := by
  refine congrArg s.withClients (List.ext_getElem? fun m => ?_ : changeAt _ s.cur s.clients = s.clients)
  by_cases hm : m = s.cur
  · unfold State.ctx at hx
    split at hx
    · next cl hcl => rw [hm, changeAt_same, hcl, Option.map_some, ← hx]
    · cases hx
  · exact changeAt_other _ _ hm

/-- The client's context is what it was given, if the client exists. -/
theorem State.ctx_withCtx {u : State} (hx : s.ctx = some x) (hcl : u.clients = s.clients) (hc : u.cur = s.cur)
    (y : Ctx) : (u.withCtx y).ctx = some y := by
  unfold State.ctx at hx
  split at hx
  · next cl h => rw [State.withCtx_ctx, hcl, hc, h, Option.map_some]
  · cases hx

/-- Inside an operation its client's steps do what the run of engine operations does. -/
theorem execRun_ops (h : sequencerStart i = some (d, x0)) {ops rest : List EngineOp} {t : State}
    (hd : s.devices[d]? = some dv) (hx : s.ctx = some x) (hm : x.micro = ops ++ rest)
    (ht : runOps s.cur ops s = some t) :
    ∃ tmp, execRun ops.length i s = some (t.withCtx { x with micro := rest, tmp := tmp }) := by
  induction ops generalizing s x t dv with
  | nil =>
    cases ht
    obtain rfl : x.micro = rest := hm
    exact ⟨x.tmp, congrArg some (State.withCtx_self hx).symm⟩
  | cons op ops ih =>
    obtain ⟨u, b, hop, hrest⟩ := runOps_cons.1 ht
    have hout := engineOp_done_outside hop
    have hstep : exec i s = .next (u.withCtx (x.advance (ops ++ rest) b)) := by
      rw [exec_running h hd hx, runProgram_micro hm]
      simp only [runMicro, hop]
      rfl
    obtain ⟨tmp, hrun⟩ := ih (s := u.withCtx (x.advance (ops ++ rest) b)) (hout.devices ▸ hd)
      (State.ctx_withCtx hx hout.clients hout.cur _) rfl (by
        rw [State.withCtx_cur, hout.cur]
        exact runOps_withCtx hrest)
    refine ⟨tmp, ?_⟩
    simp only [List.length_cons, execRun, hstep, hrun, State.withCtx_withCtx]
    rfl

end

/-- Settles O46: inside a primitive an operation's step is `runMicro` or `primitiveStep`, whatever its program; a run of
them is the run of engine operations (`execRun_ops`). -/
theorem operationsRunTheirPrimitives : Obligations.OperationsRunTheirPrimitives := by
  unfold Obligations.OperationsRunTheirPrimitives
  refine ⟨fun i s d x0 x dv h hd hx => ?_, fun i s t d x0 x dv ops rest h hd hx hm ht => execRun_ops h hd hx hm ht⟩
  rw [exec_running h hd hx]
  refine ⟨fun op rest hm => ?_, fun hm hp => ?_, fun hm => runProgram_primitive hm⟩
  · rw [runProgram_micro hm, runMicro]
    refine ⟨fun t b hop => ?_, fun t hop => ?_, fun r hop => ?_⟩
    · rw [hop]
      rfl
    · rw [hop]
      rfl
    · rw [hop]
  · rw [runProgram_primitive hm (by simp [hp]) (by simp [hp]), primitiveStep, hp]
    show s.goOn (x.finish .ok) = _
    rw [Ctx.finish, ← hm]
    rfl

/-! ### What an operation delivers (O47) -/

theorem deliverCapacity_failed {s : State} {x : Ctx} {res : Res} (h : res ≠ .ok) :
    deliverCapacity s x res = .next (s.complete (.number 0#32)) := by
  cases res with
  | ok => exact absurd rfl h
  | _ => rfl

/-- At its last step an operation delivers its result, as its caller's operation has it (R401 to R403, R421). -/
theorem sequencerProgram_leaving {i : Instr} {f : Res → Result} {s : State} {x : Ctx} {res : Res}
    (hf : delivered i = some f) (hpc : x.pc = .leaving res) :
    sequencerProgram i s x (some .ok) = .next (s.complete (f res)) := by
  cases i with
  | sdInitialize | upInitialize =>
    cases hf
    exact initProgram_leaving hpc _ _ _
  | sdRead | upRead =>
    cases hf
    exact readProgram_leaving hpc _ _ _ _ _ _
  | sdWrite | upWrite =>
    cases hf
    exact writeProgram_leaving hpc _ _ _ _ _ _
  | sdErase =>
    cases hf
    exact eraseProgram_leaving hpc _ _ _ _
  | sdReadCid | sdReadCsd =>
    cases hf
    exact registerProgram_leaving hpc _ _ _ _ _
  | _ => cases hf

/-- Settles O47: the program of each operation delivers at its step `leaving`; CRCError is no result of a legal
context. -/
theorem operationsDeliverTheirResult : Obligations.OperationsDeliverTheirResult := by
  unfold Obligations.OperationsDeliverTheirResult
  refine ⟨?delivers, ?capacity, ?results⟩
  case delivers =>
    intro i f s d x0 x dv res hf h hd ha hpc
    rw [exec_awaits (r := some .ok) h hd ha]
    exact sequencerProgram_leaving hf hpc
  case capacity =>
    intro s u x dv res hd ha hpc
    have hexec : exec (.blockCount u) s = deliverCapacity s x res :=
      (exec_awaits (r := some .ok) rfl hd ha).trans (registerProgram_leaving hpc _ _ _ _ _)
    rw [hexec]
    refine ⟨deliverCapacity_failed, ?_, ?_⟩
    · rintro n rfl hn
      simp only [deliverCapacity, registerImage, if_true, hn]
    · rintro rfl hn
      simp only [deliverCapacity, registerImage, if_true, hn]
  case results =>
    intro s c cl x res hb hcl hx hpc
    have hcrc := (hb.legal c cl x hcl hx).noCrc
    cases res with
    | ok => exact .inl rfl
    | timeout => exact .inr (.inl rfl)
    | ioError => exact .inr (.inr rfl)
    | crcError => exact absurd hpc hcrc

end Sys2Proof.Machine

/-! PROOFS. The first steps of sequencer operations (O45), and the bring-up loop of an initialization (O51). -/

namespace Sys2Proof.Machine

open Sys2Proof

section

variable {i : Instr} {s : State} {d : Nat} {x0 x : Ctx} {dv : Device}

/-! ### The first step takes the bus (O45) -/

/-- A sequencer operation starts with the acquire of its device alone. -/
theorem sequencerStart_opening (h : sequencerStart i = some (d, x0)) :
    ∃ claim, x0 = opening d (if initializes i then .i0Acquire else .beginOp) claim := by
  cases i <;> simp only [sequencerStart, Option.ite_none_left_eq_some, Option.some.injEq, Prod.mk.injEq,
    reduceCtorEq] at h
  case sdRead | sdWrite | upRead | upWrite =>
    obtain ⟨-, rfl, rfl⟩ := h
    exact ⟨_, rfl⟩
  all_goals
    obtain ⟨rfl, rfl⟩ := h
    exact ⟨_, rfl⟩

theorem operation_opens {prog : Program} (h : sequencerStart i = some (d, x0)) (hx : s.ctx = none) :
    operation x0 prog s = runMicro s x0 (.acquire d) [] := by
  obtain ⟨claim, rfl⟩ := sequencerStart_opening h
  simp only [operation, hx]
  rfl

theorem exec_opens (h : sequencerStart i = some (d, x0)) (hx : s.ctx = none) (hd : s.devices[d]? = some dv) :
    exec i s = runMicro s x0 (.acquire d) [] := (exec_sequencer h hd).trans (operation_opens h hx)

theorem runMicro_acquire_blocked {u : State} (h : acquireOp s.cur d s = .blocked u) :
    runMicro s x0 (.acquire d) [] = .next (u.withCtx x0) := by
  simp only [runMicro, engineOp, h]
  rfl

theorem runMicro_acquire_refused {r : Refusal} (h : acquireOp s.cur d s = .refuse r) :
    runMicro s x0 (.acquire d) [] = .refused r := by simp only [runMicro, engineOp, h]

theorem exec_sequencer_noLock (h : sequencerStart i = some (d, x0)) (hx : s.ctx = none) (hr : s.lock.ready = false) :
    exec i s = .refused .noLock := by
  rcases exec_sequencer_or h with heq | ⟨-, -, r, heq⟩ <;> rw [heq]
  · rw [operation_opens h hx]
    exact runMicro_acquire_refused (acquireOp_noLock hr)
  · simp [answer, hr]

theorem exec_sequencer_range (h : sequencerStart i = some (d, x0)) (hx : s.ctx = none) (hr : s.lock.ready = true)
    (hd : s.devices.length ≤ d) (hseq : delivered i = some Result.seq) : exec i s = .refused .range := by
  rcases exec_sequencer_or h with heq | ⟨-, hne, -⟩
  · rw [heq, operation_opens h hx]
    exact runMicro_acquire_refused (acquireOp_range hr hd)
  · exact absurd hseq hne

/-! ### The step after the bus is taken -/

/-- Where its acquire has completed an operation checks its device (R275, R291). -/
theorem sequencerProgram_acquired (h : sequencerStart i = some (d, x0)) (hpc : x.pc = x0.pc) :
    sequencerProgram i s x (some .ok) = if initializes i then initAcquired d s x else beginAcquired d s x := by
  obtain ⟨claim, rfl⟩ := sequencerStart_opening h
  cases i <;> simp only [sequencerStart, Option.ite_none_left_eq_some, Option.some.injEq, Prod.mk.injEq,
    reduceCtorEq] at h
  case sdInitialize | upInitialize =>
    obtain rfl := h.1
    replace hpc : x.pc = .i0Acquire := hpc
    simp only [sequencerProgram, initProgram, hpc]
    rfl
  case sdRead | upRead =>
    obtain rfl := h.2.1
    replace hpc : x.pc = .beginOp := hpc
    simp only [sequencerProgram, readProgram, hpc]
    rfl
  case sdWrite | upWrite =>
    obtain rfl := h.2.1
    replace hpc : x.pc = .beginOp := hpc
    simp only [sequencerProgram, writeProgram, hpc]
    rfl
  case sdErase =>
    obtain rfl := h.1
    replace hpc : x.pc = .beginOp := hpc
    simp only [sequencerProgram, eraseProgram, hpc]
    rfl
  case sdReadCid | sdReadCsd | blockCount =>
    obtain rfl := h.1
    replace hpc : x.pc = .beginOp := hpc
    simp only [sequencerProgram, registerProgram, hpc]
    rfl

theorem initAcquired_of (hd : s.devices[d]? = some dv) : initAcquired d s x =
    if dv.sdUsable then s.goOn (x.engine .i0Clear [.setClock s.cfg.handshakeClock]) else .refused .notSdDevice := by
  simp only [initAcquired, hd]

theorem beginAcquired_of (hd : s.devices[d]? = some dv) : beginAcquired d s x =
    if dv.sdUsable then s.goOn (x.engine .beginCs [.csAssert]) else .refused .notSdDevice := by
  simp only [beginAcquired, hd]

end

/-- Settles O45: the first step is the `acquire` of `opening`, whatever the operation's program; the step after it is
the device check. -/
theorem operationsTakeTheBus : Obligations.OperationsTakeTheBus := by
  unfold Obligations.OperationsTakeTheBus
  refine ⟨fun i s d x h hx => ⟨exec_sequencer_noLock h hx, exec_sequencer_range h hx, fun dv hr hd => ?bus⟩,
    fun s d first buf => ⟨rfl, rfl, fun hd => ?countZero⟩, fun i s d x0 x dv h hd ha hpc => ?acquired⟩
  case bus =>
    rw [exec_opens h hx hd]
    refine ⟨fun hf => ?_, fun o ho => ⟨fun hb => ?_, fun hb hne hw => ?_⟩, fun o ho hne hw => ?_, fun ho hb => ?_⟩
    · simp only [runMicro, engineOp, acquireOp_free hr hf hd]
      rfl
    · exact runMicro_acquire_blocked (acquireOp_waits hr ho hd (busyRefused_idle hb))
    · have hop := acquireOp_contended hr ho hd hb hne hw
      cases hc : Config.busyAcquireWaits <;> rw [hc] at hop
      · exact runMicro_acquire_refused hop
      · exact runMicro_acquire_blocked hop
    · exact runMicro_acquire_blocked
        (acquireOp_waits hr ho hd (busyRefused_waiting (by simpa [ho] using hne) hw))
    · exact runMicro_acquire_refused (acquireOp_busy hr ho hd (busyRefused_owner hb ho))
  case countZero =>
    have hv : s.validUnit d = true := decide_eq_true hd
    exact ⟨if_pos hv, if_pos hv⟩
  case acquired =>
    rw [exec_awaits (r := some .ok) h hd ha, sequencerProgram_acquired h hpc, initAcquired_of hd,
      beginAcquired_of hd]
    refine ⟨fun hu => ?_, fun hu => ?_⟩
    · simp [hu]
    · cases initializes i <;> simp only [hu] <;> rfl

/-! ### The bring-up loop (O51) -/

section

variable {i : Instr} {s : State} {d : Nat} {x : Ctx} {dv : Device}

/-- Where its program gets control, an initialization's step is the program's, whoever it delivers to. -/
theorem exec_initialization {r : Option PrimResult} {pc : SeqPc} {o : Outcome} (hi : initialization i d)
    (hd : s.devices[d]? = some dv) (hs : s.stands x pc (phaseOf r))
    (ho : ∀ deliver, initProgram d deliver s x r = o) : exec i s = o := by
  obtain rfl | rfl := hi
  · exact (exec_awaits rfl hd hs.1).trans (ho _)
  · exact (exec_awaits rfl hd hs.1).trans (ho _)

theorem initUnsupported_eq (sw : Bool) : initUnsupported s x sw = .next (s.withCtx
    (if sw = true ∧ x.cand = some .sdV1 ∧ x.first = some true
      then { x with cand := some .mmc, app := some false }.goto .i4Deadline else x.goto (.iFail .ioError))) := by
  unfold initUnsupported
  split
  · rfl
  · rfl

theorem initAttemptReply_eq (r1 : Byte) : initAttemptReply s x r1 = .next (s.withCtx
    (if r1 = 0x00#8 then x.goto .i5ReadOcr
      else if r1 = 0x01#8 then x.goto .i4Deadline
      else if x.app = some true ∧ x.cand = some .sdV1 ∧ x.first = some true
        then { x with cand := some .mmc, app := some false }.goto .i4Deadline
      else x.goto (.iFail .ioError))) := by
  unfold initAttemptReply
  split
  · rfl
  · split
    · rfl
    · rw [initUnsupported_eq]
      simp only [decide_eq_true_eq]

/-- The answer to CMD55 (R266, R300, R301). -/
theorem initAcmd_appReply (hpc : x.pc = .i4AppCmd) (r1 : Byte) :
    initAcmd s x (some (.reply r1)) = .next (s.withCtx
      (if r1.toNat ≤ 1 then x.goto .i4SendOpCond
        else if x.cand = some .sdV1 ∧ x.first = some true
          then { x with cand := some .mmc, app := some false }.goto .i4Deadline
        else x.goto (.iFail .ioError))) := by
  simp only [initAcmd, acmd, if_pos hpc, aboveIdle, decide_eq_true_eq]
  by_cases h : r1.toNat ≤ 1
  · rw [if_neg (by omega), if_pos h]
    rfl
  · rw [if_pos (by omega), if_neg h, initAppFailed, initUnsupported_eq]
    simp only [Option.isSome_some, true_and]

/-- After the bring-up command itself (R299 to R302). -/
theorem initAcmd_attempt (hpc : x.pc = .i4SendOpCond) (p : PrimResult) :
    initAcmd s x (some p) = initAttemptEnd s x p := by
  simp [initAcmd, acmd, hpc]

theorem initAcmd_bringUp {arg : BitVec 32} (hpc : x.pc = .i4SendOpCond) (hidx : x.cmdIdx = some 41#6)
    (harg : x.cmdArg = some arg) : initAcmd s x none = startCommand s x ⟨41#6, arg, .r1⟩ := by
  simp [initAcmd, acmd, hpc, Ctx.bringUp, hidx, harg]

theorem initDeadline_of {t0 : Nat} (h : x.t0 = some t0) : initDeadline s x =
    .next (s.now.2.withCtx ({ x with first := some false }.goto
      (if s.now.1 - t0 ≥ s.cfg.tInit then .iFail .timeout
        else if x.app = some true then .i4AppCmd else .i4Legacy))) := by
  simp only [initDeadline, h, State.deadline, decide_eq_true_eq]
  split
  · rfl
  · rfl

end

/-- Settles O51: each branch of I4 in `initProgram`. -/
theorem bringUpLoop : Obligations.BringUpLoop := by
  unfold Obligations.BringUpLoop
  intro i s d x dv r1 hi hd
  have run {r : Option PrimResult} {pc : SeqPc} {o : Outcome} (hs : s.stands x pc (phaseOf r))
      (ho : ∀ deliver, initProgram d deliver s x r = o) : exec i s = o := exec_initialization hi hd hs ho
  refine ⟨?bringUp, ?cmd55, ?acmd41, ?cmd1, ?attempt, ?appReply, ?appTimeout, ?timeout, ?deadline⟩
  case bringUp =>
    intro hs
    refine run (r := none) hs fun deliver => ?_
    simp only [initProgram, hs.2]
    rfl
  case cmd55 =>
    intro hs
    refine run (r := none) hs fun deliver => ?_
    simp only [initProgram, hs.2, initAcmd, acmd, if_true]
    exact (commandRow_ready hs.1 _).symm
  case acmd41 =>
    intro hs hidx
    refine ⟨fun harg => run (r := none) hs fun deliver => ?_, fun harg => run (r := none) hs fun deliver => ?_⟩
    · simp only [initProgram, hs.2]
      exact (initAcmd_bringUp hs.2 hidx harg).trans (acmdRow_ready hs.1 _).symm
    · simp only [initProgram, hs.2]
      exact (initAcmd_bringUp hs.2 hidx harg).trans (acmdRow_ready hs.1 _).symm
  case cmd1 =>
    intro hs
    refine run (r := none) hs fun deliver => ?_
    simp only [initProgram, hs.2]
    rfl
  case attempt =>
    rintro (hs | hs)
    · refine run (r := some (.reply r1)) hs fun deliver => ?_
      simp only [initProgram, hs.2, initAcmd_attempt, initAttemptEnd, initAttemptReply_eq]
    · refine run (r := some (.reply r1)) hs fun deliver => ?_
      simp only [initProgram, hs.2, initAttemptEnd, initAttemptReply_eq]
  case appReply =>
    intro hs
    refine run (r := some (.reply r1)) hs fun deliver => ?_
    simp only [initProgram, hs.2, initAcmd_appReply]
  case appTimeout =>
    intro hs
    refine run (r := some .timeout) hs fun deliver => ?_
    simp only [initProgram, hs.2, initAcmd, acmd, if_true, initAppFailed, initUnsupported_eq]
    rfl
  case timeout =>
    rintro (hs | hs)
    · refine run (r := some .timeout) hs fun deliver => ?_
      simp only [initProgram, hs.2, initAcmd_attempt, initAttemptEnd]
      rfl
    · refine run (r := some .timeout) hs fun deliver => ?_
      simp only [initProgram, hs.2, initAttemptEnd]
      rfl
  case deadline =>
    intro t0 hs ht0
    refine run (r := none) hs fun deliver => ?_
    simp only [initProgram, hs.2, initDeadline_of ht0]

end Sys2Proof.Machine

/-! PROOFS. The order of bits and bytes (O35, O36): fields on the wire, bytes packed from samples, and the places of
stream bytes in the 64-byte buffers. -/

namespace Sys2Proof.Machine

open Sys2Proof

/-! ### Field bits, place by place (R82) -/

theorem shiftCommand_physCommand {len : Nat} (hlen : len ≤ 16) (v : BitVec 16) (bo : BitOrder) :
    shiftCommand len (physCommand len v bo) = fieldBits len v bo := by
  cases bo with
  | lsbFirst => rfl
  | msbFirst =>
    refine List.map_congr_left fun i hi => ?_
    have hi : i < len := List.mem_range.1 hi
    have hlt : 16 - len + i < 16 := by omega
    rw [physCommand, revLow, BitVec.getLsbD_ushiftRight, BitVec.getLsbD_reverse, BitVec.getMsbD_eq_getLsbD,
      decide_eq_true hlt, Bool.true_and, show 16 - 1 - (16 - len + i) = len - 1 - i by omega]

theorem shiftAddress_physAddress {len : Nat} (hlen : len ≤ 32) (v : BitVec 32) (bo : BitOrder) :
    shiftAddress len (physAddress len v bo) = fieldBits len v bo := by
  cases bo with
  | lsbFirst =>
    refine List.map_congr_left fun i hi => ?_
    have hi : i < len := List.mem_range.1 hi
    have hlt : 31 - i < 32 := by omega
    rw [physAddress, BitVec.getLsbD_reverse, BitVec.getMsbD_eq_getLsbD, decide_eq_true hlt, Bool.true_and,
      show 32 - 1 - (31 - i) = i by omega]
  | msbFirst =>
    refine List.map_congr_left fun i hi => ?_
    have hi : i < len := List.mem_range.1 hi
    have hlt : 31 - i < 32 := by omega
    have hge : ¬ 31 - i < 32 - len := by omega
    rw [physAddress, BitVec.getLsbD_shiftLeft, decide_eq_true hlt, decide_eq_false hge, Bool.true_and, Bool.not_false,
      Bool.true_and, show 31 - i - (32 - len) = len - 1 - i by omega]

/-- Settles O35: bit `i` on the wire, after the reversal or the shift that storing does, is the bit that `fieldBits`
names. -/
theorem physicalLayoutHasTheWireOrder : Obligations.PhysicalLayoutHasTheWireOrder := by
  unfold Obligations.PhysicalLayoutHasTheWireOrder
  exact fun bo len => ⟨fun v h => shiftCommand_physCommand h v bo, fun v h => shiftAddress_physAddress h v bo⟩

/-! ### Bytes sent and sampled back (R82, R85) -/

/-- The low bits of a number, most significant first, fold to what is left of it by `2 ^ n`. -/
theorem foldl_testBit (n x : Nat) :
    ((List.range n).map fun i => x.testBit (n - 1 - i)).foldl (fun m b => 2 * m + b.toNat) 0 = x % 2 ^ n := by
  induction n generalizing x with
  | zero => simp [Nat.mod_one]
  | succ n ih =>
    have hshift : ((List.range n).map fun i => x.testBit (n - i)) =
        (List.range n).map fun i => (x / 2).testBit (n - 1 - i) := by
      refine List.map_congr_left fun i hi => ?_
      have hi : i < n := List.mem_range.1 hi
      rw [← Nat.testBit_add_one, show n - 1 - i + 1 = n - i by omega]
    have hlast : (x.testBit 0).toNat = x % 2 := by rw [Nat.toNat_testBit, Nat.pow_zero, Nat.div_one]
    simp only [List.range_succ, List.map_append, List.map_cons, List.map_nil, List.foldl_append, List.foldl_cons,
      List.foldl_nil, Nat.add_sub_cancel, Nat.sub_self, hshift, ih, hlast]
    rw [Nat.pow_succ', Nat.mod_mul, Nat.add_comm]

theorem reverse_fieldBits_lsbFirst {w : Nat} (len : Nat) (v : BitVec w) :
    (fieldBits len v .lsbFirst).reverse = fieldBits len v .msbFirst := by
  have hrev : (List.range len).reverse = (List.range len).map fun i => len - 1 - i := by
    rw [List.range_eq_range', List.reverse_range', ← List.range_eq_range']
    simp
  calc (fieldBits len v .lsbFirst).reverse
    _ = (List.range len).reverse.map fun i => v.getLsbD i := List.map_reverse.symm
    _ = fieldBits len v .msbFirst := by rw [hrev, List.map_map]; rfl

theorem packByte_byteBits (b : Byte) (bo : BitOrder) : packByte bo (byteBits b bo) = b := by
  have hmsb : packByte .msbFirst (fieldBits 8 b .msbFirst) = b := by
    have hfold := foldl_testBit 8 b.toNat
    rw [Nat.mod_eq_of_lt b.isLt] at hfold
    exact (congrArg (BitVec.ofNat 8) hfold).trans ((BitVec.ofNat_toNat 8 b).trans (BitVec.setWidth_eq b))
  cases bo with
  | msbFirst => exact hmsb
  | lsbFirst =>
    rw [← reverse_fieldBits_lsbFirst] at hmsb
    exact hmsb

@[simp] theorem byteBits_length (b : Byte) (bo : BitOrder) : (byteBits b bo).length = 8 := fieldBits_length 8 b bo

theorem packBytes_byteBits (bo : BitOrder) (bs : List Byte) :
    packBytes bo (bs.flatMap fun b => byteBits b bo) bs.length = bs := by
  induction bs with
  | nil => rfl
  | cons b bs ih =>
    simp only [List.flatMap_cons, List.length_cons, packBytes]
    rw [List.take_left' (byteBits_length b bo), List.drop_left' (byteBits_length b bo), packByte_byteBits, ih]

/-! ### The places of stream bytes (R83, R85) -/

/-- A byte of the output stream is the byte at its place. -/
theorem outStream_eq_some_iff {buf : List (Option Byte)} {be : Bool} {n : Nat} {bs : List Byte} :
    outStream buf be n = some bs ↔ bs.length = n ∧ ∀ j, j < n → buf[streamIndex be j]? = some bs[j]? := by
  rw [outStream, allDefined_iff]
  constructor
  · intro h
    obtain rfl : n = bs.length := by simpa using congrArg List.length h
    refine ⟨rfl, fun j hj => ?_⟩
    have hbyte : (buf[streamIndex be j]?).getD none = some bs[j] := by
      simpa [hj] using congrArg (·[j]?) h
    rw [List.getElem?_eq_getElem hj]
    cases hb : buf[streamIndex be j]? with
    | none => simp [hb] at hbyte
    | some o => simpa [hb] using hbyte
  · rintro ⟨rfl, h⟩
    refine List.ext_getElem (by simp) fun j hj hj' => ?_
    have hj : j < bs.length := by simpa using hj
    simp [h j hj, hj]

/-- Stream byte `i` of the stored bytes stands at its place. -/
theorem storeStream_getElem? {be : Bool} {i j : Nat} {bs : List Byte} {buf : List (Option Byte)} (hi : i < bs.length)
    (hbuf : streamIndex be (j + i) < buf.length) :
    (storeStream be j bs buf)[streamIndex be (j + i)]? = some bs[i]? := by
  induction bs generalizing i j buf with
  | nil => cases hi
  | cons b bs ih =>
    cases i with
    | zero =>
      have hother (k : Nat) (_ : k < bs.length) : streamIndex be (j + 1 + k) ≠ streamIndex be j := by
        intro h
        have := congrArg (streamIndex be) h
        simp only [streamIndex_streamIndex] at this
        omega
      rw [Nat.add_zero] at hbuf ⊢
      rw [storeStream, storeStream_other hother]
      exact List.getElem?_set_self hbuf
    | succ i =>
      rw [show j + (i + 1) = j + 1 + i by omega] at hbuf ⊢
      exact ih (Nat.lt_of_succ_lt_succ hi) (by simpa using hbuf)

/-- In a group of four that is turned over, byte `i` stands at place `3 - i`. -/
theorem streamIndex_group (g : Nat) {i : Nat} (hi : i < 4) : streamIndex true (4 * g + i) = 4 * g + 3 - i := by
  simp only [streamIndex, if_true]
  omega

/-- Storing the stream from its beginning changes no place at or behind its length. -/
theorem storeStream_rest {be : Bool} {k : Nat} {bs : List Byte} {buf : List (Option Byte)}
    (hg : be = true → bs.length % 4 = 0) (hk : bs.length ≤ k) : (storeStream be 0 bs buf)[k]? = buf[k]? := by
  refine storeStream_other fun i hi => ?_
  have := streamIndex_lt hg hi
  rw [Nat.zero_add]
  omega

/-- Settles O36: packing undoes `byteBits` byte by byte, and a stream byte stands at `streamIndex`, in place or turned
over in its group. -/
theorem bytesKeepTheirOrder : Obligations.BytesKeepTheirOrder := by
  unfold Obligations.BytesKeepTheirOrder
  refine ⟨packBytes_byteBits, fun buf n bs => outStream_eq_some_iff, fun buf bs hlen => ⟨fun j hj => ?inPlace,
    fun j hj => storeStream_rest nofun hj⟩, fun buf n bs => ?out, fun buf bs hsize hg hlen => ⟨fun g i hi hj => ?turned,
    fun j hj => storeStream_rest (fun _ => hg) hj⟩⟩
  case inPlace =>
    have h := storeStream_getElem? (be := false) (j := 0) (buf := buf) hj (by simpa [streamIndex] using by omega)
    rwa [Nat.zero_add] at h
  case out =>
    rw [outStream_eq_some_iff]
    refine and_congr_right fun _ => ⟨fun h g i hi hj => ?_, fun h j hj => ?_⟩
    · rw [← streamIndex_group g hi]
      exact h _ hj
    · have hi := Nat.mod_lt j (by decide : 4 > 0)
      have hdiv := Nat.div_add_mod j 4
      have hg := streamIndex_group (j / 4) hi
      rw [hdiv] at hg
      rw [hg, h (j / 4) (j % 4) hi (by rwa [hdiv]), hdiv]
  case turned =>
    have hg' := streamIndex_lt (fun _ => hg : true = true → _) hj
    have h := storeStream_getElem? (be := true) (j := 0) (buf := buf) hj (by rw [Nat.zero_add]; omega)
    rwa [Nat.zero_add, streamIndex_group g hi] at h

end Sys2Proof.Machine

/-! PROOFS. What the engine refuses (O23), the transaction that `execute` starts (O28), and its bound (O29). -/

namespace Sys2Proof.Machine

open Sys2Proof

/-! ### Who owns a caller buffer (R99) -/

/-- The client's operation owns a buffer that shares a byte with this stretch. -/
def Client.ownsPart (cl : Client) (base n : Nat) : Prop :=
  ∃ x b m, cl.ctx = some x ∧ x.claim = some (b, m) ∧ overlaps base n b m = true

theorem ownedByOther_cons {c base n i : Nat} {cl : Client} {l : List Client} :
    ownedByOther c base n i (cl :: l) = true ↔
      (i ≠ c ∧ cl.ownsPart base n) ∨ ownedByOther c base n (i + 1) l = true := by
  rw [ownedByOther, Bool.or_eq_true, Bool.and_eq_true, decide_eq_true_eq]
  refine or_congr_left (and_congr_right fun _ => ?_)
  unfold Client.ownsPart
  cases cl.ctx with
  | none => simp
  | some x =>
    cases hc : x.claim with
    | none => simp [hc]
    | some p => simp [hc, Prod.ext_iff]

/-- Another client's operation owns a part of a stretch: the ids of the clients of the list begin with `i`. -/
theorem ownedByOther_iff {c base n i : Nat} {l : List Client} :
    ownedByOther c base n i l = true ↔ ∃ j cl, i + j ≠ c ∧ l[j]? = some cl ∧ cl.ownsPart base n := by
  induction l generalizing i with
  | nil => simp [ownedByOther]
  | cons cl l ih =>
    rw [ownedByOther_cons, ih]
    constructor
    · rintro (⟨hi, ho⟩ | ⟨j, cl', hj, hcl, ho⟩)
      · exact ⟨0, cl, hi, rfl, ho⟩
      · exact ⟨j + 1, cl', by omega, hcl, ho⟩
    · rintro ⟨_ | j, cl', hj, hcl, ho⟩
      · cases hcl
        exact .inl ⟨hj, ho⟩
      · exact .inr ⟨j, cl', by omega, hcl, ho⟩

/-- Two stretches overlap exactly where they have an address in common. -/
theorem overlaps_iff {a n b m : Nat} :
    overlaps a n b m = true ↔ ∃ k, a ≤ k ∧ k < a + n ∧ b ≤ k ∧ k < b + m := by
  simp only [overlaps, Bool.and_eq_true, decide_eq_true_eq]
  constructor
  · rintro ⟨⟨⟨h1, h2⟩, h3⟩, h4⟩
    exact ⟨max a b, by omega⟩
  · rintro ⟨k, h⟩
    omega

section

variable {s : State} {base n : Nat} {bs : List Byte}

theorem State.readBuffer_owned (h : ownedByOther s.cur base n 0 s.clients = true) : s.readBuffer base n = none :=
  if_pos h

theorem State.readBuffer_free (h : ownedByOther s.cur base n 0 s.clients = false) :
    s.readBuffer base n = some (Memory.readBytes s.mem base n) := by simp [State.readBuffer, h]

theorem State.writeBuffer_owned (h : ownedByOther s.cur base bs.length 0 s.clients = true) :
    s.writeBuffer base bs = none := if_pos h

end

/-! ### The guards of the engine operations (R205, R206) -/

section

variable {s : State} {i : Instr} {body : Flow}

theorem State.owns_eq_false (h : s.lock.ready = false ∨ s.lock.owner ≠ some s.cur) : s.owns s.cur = false := by
  rw [← Bool.not_eq_true, owns_iff]
  rintro ⟨hr, ho⟩
  rcases h with h | h
  · cases h.symm.trans hr
  · exact h ho

theorem ownedIdle_refused (h : ¬ s.ready) : ∃ r, (ownedIdle s.cur s body).request = .refused r := by
  cases ho : s.owns s.cur with
  | false => exact ⟨_, congrArg Flow.request (ownedIdle_not ho)⟩
  | true =>
    cases hb : s.engine.busy with
    | false => exact absurd ⟨ho, hb⟩ h
    | true => exact ⟨_, congrArg Flow.request (ownedIdle_busy ho hb)⟩

/-- An operation that only the owner of an idle bus may do is behind that guard; `set_output` reads its buffer
before it. -/
theorem exec_ownerOnly (ho : ownerOnly i = true) (hw : waits i = false) :
    (∃ r, exec i s = .refused r) ∨ ∃ body, exec i s = (ownedIdle s.cur s body).request := by
  cases i with
  | setOutput len buf =>
    change (∃ r, execSetOutput len buf s = _) ∨ ∃ body, execSetOutput len buf s = _
    unfold execSetOutput
    split
    · exact .inr ⟨_, rfl⟩
    · exact .inl ⟨_, rfl⟩
  | release | setClock | csAssert | csDeassert | reset | setCommand | setAddress | setOutputPattern | configureExec
  | execute => exact .inr ⟨_, rfl⟩
  | wait | readResult => cases hw
  | _ => cases ho

theorem exec_refused_of_not_ready (ho : ownerOnly i = true) (hw : waits i = false) (h : ¬ s.ready) :
    ∃ r, exec i s = .refused r := by
  obtain hr | ⟨body, hbody⟩ := exec_ownerOnly ho hw
  · exact hr
  · rw [hbody]
    exact ownedIdle_refused h

theorem exec_refused_of_not_owns (ho : ownerOnly i = true) (h : s.owns s.cur = false) :
    ∃ r, exec i s = .refused r := by
  by_cases hw : waits i = false
  · exact exec_refused_of_not_ready ho hw fun hr => by cases h.symm.trans hr.1
  · cases i with
    | wait => exact ⟨_, congrArg Flow.request (owned_not h)⟩
    | readResult buf =>
      refine ⟨.notOwner, ?_⟩
      change execReadResult buf s = _
      simp only [execReadResult, readResultOp, owned_not h]
      rfl
    | _ => exact absurd rfl hw

/-- An operand outside its range is refused by the owner of an idle bus (R206). -/
theorem ownedIdle_range {ok : Bool} (hs : s.ready) (h : ok = false) :
    (ownedIdle s.cur s (inRange ok body)).request = .refused .range := by
  rw [ownedIdle_of hs.1 hs.2, h]
  rfl

theorem exec_setOutput_of_read {len buf : Nat} {bs : List Byte} (h : s.readBuffer buf (ceil8 len) = some bs) :
    exec (.setOutput len buf) s = (setOutputOp s.cur len bs s).request := by
  change execSetOutput len buf s = _
  simp only [execSetOutput, h]

theorem exec_setOutput_owned {len buf : Nat} (h : ownedByOther s.cur buf (ceil8 len) 0 s.clients = true) :
    exec (.setOutput len buf) s = .refused .bufferOwned := by
  change execSetOutput len buf s = _
  simp only [execSetOutput, State.readBuffer_owned h]

/-- `read_result` whose bytes are there is refused where another client's operation owns the buffer (R99). -/
theorem exec_readResult_owned {buf n : Nat} (ho : s.owns s.cur = true) (hb : s.engine.busy = false)
    (hn : s.xferInLen = some n) (hdef : ∀ j, j < ceil8 n → ∃ b, s.engine.inBuf[j]? = some (some b))
    (hown : ownedByOther s.cur buf (ceil8 n) 0 s.clients = true) :
    exec (.readResult buf) s = .refused .bufferOwned := by
  choose! f hf using hdef
  have hbytes : allDefined (s.engine.inBuf.take (ceil8 n)) = some ((List.range (ceil8 n)).map f) :=
    allDefined_take (by simp) fun j hj => ⟨f j, hf j hj, by simp [hj]⟩
  have hr : readResultOp s.cur s = .done s (some ((List.range (ceil8 n)).map f)) :=
    readResultOp_done.2 ⟨ho, hb, rfl, n, _, hn, hbytes, rfl⟩
  change execReadResult buf s = _
  simp only [execReadResult, hr, Option.getD_some]
  rw [State.writeBuffer_owned (by simpa using hown)]

end

/-! ### The fields that `execute` reads (R81, R216) -/

section

variable {bo : BitOrder} {e : Engine}

theorem fieldPhase_iff {w : Nat} {en : Option Bool} {len : Option Nat} {v : Option (BitVec w)} {bits : List Bool} :
    fieldPhase en len v bo = some bits ↔ (en = some false ∧ bits = []) ∨
      (en = some true ∧ ∃ n x, len = some n ∧ v = some x ∧ bits = fieldBits n x bo) := by
  unfold fieldPhase
  split
  · simp [eq_comm]
  · simp [eq_comm]
  · next hf ht =>
    refine ⟨nofun, ?_⟩
    rintro (⟨rfl, -⟩ | ⟨rfl, n, x, rfl, rfl, -⟩)
    · exact (hf rfl).elim
    · exact (ht _ _ rfl rfl rfl).elim

theorem outPhase_iff {be : Bool} {bits : List Bool} : outPhase e be bo = some bits ↔
    (e.outEn = some false ∧ bits = []) ∨
      (e.outEn = some true ∧ ∃ n bs, e.outLen = some n ∧ outStream e.outBuf be (ceil8 n) = some bs ∧
        bits = outBits n bs bo) := by
  unfold outPhase
  split
  · next hen => simp [hen, eq_comm]
  · next hen hlen => simp [hen, hlen, eq_comm]
  · next hf ht =>
    refine ⟨nofun, ?_⟩
    rintro (⟨hen, -⟩ | ⟨hen, n, _, hlen, -⟩)
    · exact (hf hen).elim
    · exact (ht n hen hlen).elim

/-- The transaction that the fields describe: the three phases of bits, one after the other (R80, R81). -/
theorem Engine.phases_iff {bits : List Bool} {dl il : Nat} : e.phases bo = some (bits, dl, il) ↔
    ∃ obe ibe a b d, e.outBe = some obe ∧ e.inBe = some ibe ∧ e.dummyLen = some dl ∧ e.inLen = some il ∧
      fieldPhase e.cmdEn e.cmdLen e.cmdVal bo = some a ∧ fieldPhase e.addrEn e.addrLen e.addrVal bo = some b ∧
      outPhase e obe bo = some d ∧ bits = a ++ b ++ d := by
  constructor
  · intro h
    unfold Engine.phases at h
    split at h
    · next hobe hibe hdl hil =>
      split at h
      · next ha hb hd =>
        cases h
        exact ⟨_, _, _, _, _, hobe, hibe, hdl, hil, ha, hb, hd, rfl⟩
      · cases h
    · cases h
  · rintro ⟨obe, ibe, a, b, d, hobe, hibe, hdl, hil, ha, hb, hd, rfl⟩
    simp only [Engine.phases, hobe, hibe, hdl, hil, ha, hb, hd]

/-- Fields of which one that is in use is UNDEF describe no transaction (R216). -/
theorem Engine.phases_undef
    (h : e.cmdEn = none ∨ e.addrEn = none ∨ e.outEn = none ∨ e.dummyLen = none ∨ e.inLen = none ∨ e.outBe = none ∨
      e.inBe = none ∨ (e.cmdEn = some true ∧ (e.cmdLen = none ∨ e.cmdVal = none)) ∨
      (e.addrEn = some true ∧ (e.addrLen = none ∨ e.addrVal = none)) ∨ (e.outEn = some true ∧ e.outLen = none)) :
    e.phases bo = none := by
  refine Option.eq_none_iff_forall_ne_some.2 fun ⟨bits, dl, il⟩ hp => ?_
  obtain ⟨obe, ibe, a, b, d, hobe, hibe, hdl, hil, ha, hb, hd, -⟩ := Engine.phases_iff.1 hp
  rw [fieldPhase_iff] at ha hb
  rw [outPhase_iff] at hd
  rcases h with h | h | h | h | h | h | h | ⟨hen, h⟩ | ⟨hen, h⟩ | ⟨hen, h⟩
  · simp [h] at ha
  · simp [h] at hb
  · simp [h] at hd
  · cases h.symm.trans hdl
  · cases h.symm.trans hil
  · cases h.symm.trans hobe
  · cases h.symm.trans hibe
  · rcases h with h | h <;> simp [hen, h] at ha
  · rcases h with h | h <;> simp [hen, h] at hb
  · simp [hen, h] at hd

end

/-! ### What `execute` refuses (R83, R85, R216) -/

section

variable {s : State}

theorem exec_execute_undef (hs : s.ready) (h : ∀ bo, s.engine.phases bo = none) :
    exec .execute s = .refused .undefField := by
  change (executeOp s.cur s).request = _
  rw [executeOp, ownedIdle_of hs.1 hs.2]
  split
  · rw [h]
    rfl
  · rfl

theorem exec_execute_badBeLength (hs : s.ready) (h : s.engine.badBeLength = true) :
    ∃ r, exec .execute s = .refused r := by
  change ∃ r, (executeOp s.cur s).request = _
  rw [executeOp, ownedIdle_of hs.1 hs.2]
  split
  · split
    · exact ⟨_, rfl⟩
    · exact ⟨_, congrArg Flow.request (if_pos h)⟩
  · exact ⟨_, rfl⟩

end

/-- Settles O23: the guards `owned`, `ownedIdle` and `inRange` that the operations stand behind, the buffers of other
clients, and the fields that `execute` finds UNDEF or of a bad length. -/
theorem engineRefusals : Obligations.EngineRefusals := by
  unfold Obligations.EngineRefusals
  refine ⟨fun i s ho => ⟨fun h => ?notOwner, fun hw hb => ?busy⟩, fun s dev ho hb => ?acquire, fun s base n => ?buffers,
    fun s len buf => exec_setOutput_owned, fun s buf n => exec_readResult_owned,
    fun s len dummy recv r beo bei w hs => ⟨fun v h => ?command, fun h => ?address, fun h => ?pattern, fun h hr => ?output,
      fun h => ?shape⟩,
    fun s hs => ⟨fun h => exec_execute_undef hs fun bo => Engine.phases_undef h, fun n hen hbe hlen hn => ?outBe,
      fun n hbe hlen hn => ?inBe⟩⟩
  case notOwner => exact exec_refused_of_not_owns ho (State.owns_eq_false h)
  case busy => exact exec_refused_of_not_ready ho hw fun hr => by cases hb.symm.trans hr.2
  case acquire =>
    change ∃ r, (acquireOp s.cur dev s).request = .refused r
    cases hop : acquireOp s.cur dev s with
    | done u b => cases ho.symm.trans (acquireOp_done.1 hop).2.1
    | blocked u => cases (busyRefused_owner hb ho).symm.trans (acquireOp_blocked.1 hop).2.2.1
    | refuse r => exact ⟨r, rfl⟩
  case buffers =>
    rw [ownedByOther_iff]
    constructor
    · rintro ⟨c, cl, hc, hcl, x, b, m, hx, hclaim, ho⟩
      obtain ⟨a, ha⟩ := overlaps_iff.1 ho
      exact ⟨c, cl, x, b, m, a, by omega, hcl, hx, hclaim, ha⟩
    · rintro ⟨c, cl, x, b, m, a, hc, hcl, hx, hclaim, ha⟩
      exact ⟨c, cl, by omega, hcl, x, b, m, hx, hclaim, overlaps_iff.2 ⟨a, ha⟩⟩
  case command => exact ownedIdle_range hs (by simp; omega)
  case address => exact ownedIdle_range hs (by simp; omega)
  case pattern => exact ownedIdle_range hs (by simp; omega)
  case output =>
    obtain ⟨bs, hbs⟩ := Option.ne_none_iff_exists'.1 hr
    rw [exec_setOutput_of_read hbs]
    exact ownedIdle_range hs (by simp; omega)
  case shape => exact ownedIdle_range hs (by simp; omega)
  case outBe => exact exec_execute_badBeLength hs (by simp [Engine.badBeLength, hen, hbe, hlen, hn])
  case inBe =>
    have hpos : 0 < n := Nat.pos_of_ne_zero fun h0 => hn (by simp [h0])
    exact exec_execute_badBeLength hs (by simp [Engine.badBeLength, hbe, hlen, hn, hpos])

/-! ### The transaction that `execute` starts (R80 to R82, R216) -/

theorem fieldPhase_of {w n : Nat} {en : Bool} {len : Option Nat} {v : Option (BitVec w)} {x : BitVec w} {bo : BitOrder}
    (h : en = true → len = some n ∧ v = some x) :
    fieldPhase (some en) len v bo = some (if en then fieldBits n x bo else []) := by
  cases en with
  | false => rfl
  | true =>
    obtain ⟨rfl, rfl⟩ := h rfl
    rfl

theorem outPhase_of {e : Engine} {n : Nat} {en be : Bool} {bs : List Byte} {bo : BitOrder} (hen : e.outEn = some en)
    (h : en = true → e.outLen = some n ∧ outStream e.outBuf be (ceil8 n) = some bs) :
    outPhase e be bo = some (if en then outBits n bs bo else []) := by
  cases en with
  | false => exact outPhase_iff.2 (.inl ⟨hen, rfl⟩)
  | true =>
    obtain ⟨hlen, hbs⟩ := h rfl
    exact outPhase_iff.2 (.inr ⟨hen, n, bs, hlen, hbs, rfl⟩)

/-- The output phase has as many bits as its length says (R82). -/
theorem outBits_length {n : Nat} {buf : List (Option Byte)} {be : Bool} {bs : List Byte} (bo : BitOrder)
    (h : outStream buf be (ceil8 n) = some bs) : (outBits n bs bo).length = n := by
  have hlen : bs.length = ceil8 n := (outStream_eq_some_iff.1 h).1
  have hbits : (bs.flatMap fun b => byteBits b bo).length = 8 * bs.length := by
    simp [List.length_flatMap, Nat.mul_comm]
  rw [outBits, List.length_take, hbits, hlen, ceil8]
  omega

theorem Engine.badBeLength_false {e : Engine}
    (hout : e.outEn = some true → e.outBe = some true → e.outLen.getD 0 % 32 = 0)
    (hin : 0 < e.inLen.getD 0 → e.inBe = some true → e.inLen.getD 0 % 32 = 0) : e.badBeLength = false := by
  simpa [Engine.badBeLength] using ⟨hout, hin⟩

/-- Settles O28: what the fields give in each phase is what `executeOp` snapshots. -/
theorem executeSnapshotsTheTransaction : Obligations.ExecuteSnapshotsTheTransaction := by
  unfold Obligations.ExecuteSnapshotsTheTransaction
  intro s bo cm ce ae oe obe ibe cl al ol dl il cv av out hs hbo hcm hce hcmd hae haddr hoe hout hobe hibe hdl hil hin
  have hphases := Engine.phases_iff.2 ⟨obe, ibe, _, _, _, hobe, hibe, hdl, hil, hce ▸ fieldPhase_of (bo := bo) hcmd,
    hae ▸ fieldPhase_of haddr, outPhase_of hoe fun h => ⟨(hout h).1, (hout h).2.1⟩, rfl⟩
  have hbe : s.engine.badBeLength = false := by
    refine Engine.badBeLength_false (fun hen hbe => ?_) fun hpos hbe => ?_
    · obtain ⟨hlen, -, hg⟩ := hout (Option.some.inj (hoe.symm.trans hen))
      rw [hlen]
      exact hg (Option.some.inj (hobe.symm.trans hbe))
    · rw [hil] at hpos ⊢
      exact hin hpos (Option.some.inj (hibe.symm.trans hbe))
  have hdriven : (if oe then outBits ol out bo else []).length = if oe then ol else 0 := by
    cases oe with
    | false => rfl
    | true => exact outBits_length bo (hout rfl).2.1
  refine ⟨_, congrArg Flow.request (executeOp_done.2 ⟨hs.1, hs.2, bo, cm, _, dl, il, hbo, hcm, hphases, hbe, rfl, rfl⟩),
    rfl, ?_, rfl, ?_, rfl, rfl, rfl, rfl⟩
  · simp only [snapOf, List.length_append, hdriven, apply_ite List.length, fieldBits_length, List.length_nil]
  · simp [snapOf, hibe]

/-! ### A transaction is bounded and completes (R95, R223) -/

/-- A command or address phase has the bits its length says, and none where the field is absent. -/
theorem fieldPhase_length {w : Nat} {en : Option Bool} {len : Option Nat} {v : Option (BitVec w)} {bo : BitOrder}
    {bits : List Bool} (h : fieldPhase en len v bo = some bits) :
    (en = some true → len = some bits.length) ∧ (en = some false → bits.length = 0) := by
  obtain ⟨rfl, rfl⟩ | ⟨rfl, n, x, rfl, rfl, rfl⟩ := fieldPhase_iff.1 h
  · exact ⟨nofun, fun _ => rfl⟩
  · exact ⟨fun _ => by rw [fieldBits_length], nofun⟩

theorem outPhase_length {e : Engine} {be : Bool} {bo : BitOrder} {bits : List Bool} (h : outPhase e be bo = some bits) :
    (e.outEn = some true → e.outLen = some bits.length) ∧ (e.outEn = some false → bits.length = 0) := by
  obtain ⟨hen, rfl⟩ | ⟨hen, n, bs, hlen, hbs, rfl⟩ := outPhase_iff.1 h <;> rw [hen]
  · exact ⟨nofun, fun _ => rfl⟩
  · exact ⟨fun _ => by rw [outBits_length bo hbs, hlen], nofun⟩

/-- `execute` has no next state but that of its completion. -/
theorem exec_execute_next {s t : State} (h : exec .execute s = .next t) :
    ∃ u b, executeOp s.cur s = .done u b ∧ t = u.complete .done := by
  change (executeOp s.cur s).request = _ at h
  cases hop : executeOp s.cur s with
  | done u b =>
    rw [hop] at h
    cases h
    exact ⟨u, b, rfl, rfl⟩
  | blocked u =>
    obtain ⟨_, hop⟩ | ⟨hop | hop, -⟩ := engineOp_blocked (op := .execute) hop <;> cases hop
  | refuse r =>
    rw [hop] at h
    cases h

/-- A transaction with an event left is over after as many steps of the shifter as it has events left (R220). -/
theorem shifterRun_completes {n : Nat} {s : State} {p : Snap} (hs : s.snap = some p)
    (hn : p.pos + n + 1 = p.mosi.length) : (shifterRun (n + 1) s).engine.busy = false := by
  induction n generalizing s p with
  | zero =>
    rw [shifterRun, shifterStep_last hs hn]
    exact finishTransfer_busy _ _
  | succ n ih =>
    rw [shifterRun, shifterStep_event hs (by omega)]
    exact ih (clockEvent_snap s p) (by simp only [Snap.sampled]; omega)

/-- Settles O29: the phases that `execute` snapshots have the lengths of their fields, and each step of the shifter is
one event. -/
theorem transactionsAreBounded : Obligations.TransactionsAreBounded := by
  unfold Obligations.TransactionsAreBounded
  refine ⟨fun s t hi ht => ?bound, fun s hi hb => ?completes⟩
  case bound =>
    obtain ⟨u, b, hop, rfl⟩ := exec_execute_next ht
    obtain ⟨-, -, bo, cm, bits, dl, il, -, -, hp, hbe, rfl, -⟩ := executeOp_done.1 hop
    have hlegal := hi.engine.snapOf_legal (cm := cm) hp hbe
    obtain ⟨obe, ibe, a, b, d, -, -, hdl, hil, ha, hb, hd, rfl⟩ := Engine.phases_iff.1 hp
    obtain ⟨hcl, hcl0⟩ := fieldPhase_length ha
    obtain ⟨hal, hal0⟩ := fieldPhase_length hb
    obtain ⟨hol, hol0⟩ := outPhase_length hd
    refine ⟨_, a.length, b.length, d.length, dl, il, rfl, hcl, hcl0, hal, hal0, hol, hol0, hdl, hil, ?_,
      hlegal.length, fun k hk => hlegal.held k ?_⟩
    · simp only [snapOf, List.length_append, List.length_replicate]
      omega
    · simpa only [snapOf, List.length_append] using hk
  case completes =>
    obtain ⟨p, hp⟩ := Option.isSome_iff_exists.1 (hi.present ▸ hb)
    have hlegal := (hi.snapshot p hp).1
    have hlen := hlegal.length
    obtain hpos | hnil := hlegal.inside
    · exact ⟨p.mosi.length - p.pos - 1 + 1, by omega, by omega, shifterRun_completes hp (by omega)⟩
    · refine ⟨1, by omega, by omega, ?_⟩
      rw [shifterRun, shifterStep_over hp (by simp [hnil])]
      exact finishTransfer_busy _ _

end Sys2Proof.Machine

/-! PROOFS. The shifter moves the bits of a transaction (O31): an induction over its events. -/

namespace Sys2Proof.Machine

open Sys2Proof

/-! ### The MOSI line at an event (R86) -/

theorem clockEvent_mosi (s : State) (p : Snap) :
    (clockEvent s p).lines.mosi = drivenBit s.latch.sharedIo p ((p.mosi[p.pos]?).getD true) := by rw [clockEvent_eq]

theorem finishTransfer_mosi (s : State) (p : Snap) : (finishTransfer s p).lines.mosi = s.lines.mosi := by
  rw [finishTransfer_eq]

/-- While an event is left a step of the shifter leaves on MOSI what the block drives at it. -/
theorem shifterStep_mosi {s : State} {p : Snap} (hs : s.snap = some p) (hp : p.pos < p.mosi.length) :
    (shifterStep s).lines.mosi = drivenBit s.latch.sharedIo p (p.mosi[p.pos]) := by
  have hbit : (p.mosi[p.pos]?).getD true = p.mosi[p.pos] := by simp [hp]
  by_cases hlast : p.pos + 1 = p.mosi.length
  · rw [shifterStep_last hs hlast, finishTransfer_mosi, clockEvent_mosi, hbit]
  · rw [shifterStep_event hs (by omega), clockEvent_mosi, hbit]

/-! ### A transaction without an event -/

theorem shifterStep_nothing {s : State} {p : Snap} (hs : s.snap = some p) (hp : p.Legal) (hnil : p.mosi = []) :
    shifterStep s = (s.withSnap none).withEngine { s.engine with busy := false } := by
  have hlen : p.inLen = 0 := by
    have := hp.phases
    rw [hnil, List.length_nil] at this
    omega
  have hinBuf := finishTransfer_inBuf_nothing (s := s) hlen
  rw [finishTransfer_inBuf] at hinBuf
  rw [shifterStep_over hs (by simp [hnil]), finishTransfer_eq, State.csAfter_cs, if_neg (by simp [hnil]), hinBuf, hlen]
  rfl

/-! ### The events of a transaction (R80, R85, R220) -/

/-- A MISO bit that the environment's answers still hold is the next one drawn. -/
theorem State.drawBit_cons {s : State} {m : Bool} {rest : List Bool} (h : s.env.miso = m :: rest) :
    s.drawBit = (m, s.withEnv { s.env with miso := rest }) := by simp [State.drawBit, h]

/-- The snapshot after the first `k` events of a transaction, to which the card answers the bits `ms`: the samples of
the input phase are kept (R81, R85). -/
def Snap.after (p : Snap) (ms : List Bool) (k : Nat) : Snap :=
  { p with pos := k, samples := (ms.take k).drop (p.mosi.length - p.inLen) }

theorem Snap.after_zero {p : Snap} (hp : p.Legal) (h0 : p.pos = 0) (ms : List Bool) : p.after ms 0 = p := by
  have hnone : p.samples = [] := List.length_eq_zero_iff.1 (by rw [hp.kept, h0, Nat.zero_sub])
  rw [Snap.after, List.take_zero, List.drop_nil, ← h0, ← hnone]

/-- The samples grow by the answer to an event of the input phase, and not before it. -/
theorem drop_take_succ {ms : List Bool} {k : Nat} (hk : k < ms.length) (n : Nat) :
    (ms.take (k + 1)).drop n = if n ≤ k then (ms.take k).drop n ++ [ms[k]] else (ms.take k).drop n := by
  have hlen : (ms.take k).length = k := List.length_take_of_le hk.le
  rw [← List.take_append_getElem hk]
  split
  · exact List.drop_append_of_le_length (by omega)
  · rw [List.drop_eq_nil_of_le (by simp; omega), List.drop_eq_nil_of_le (by omega)]

theorem Snap.after_sampled {p : Snap} {ms : List Bool} {k : Nat} (hk : k < ms.length) :
    (p.after ms k).sampled ms[k] = p.after ms (k + 1) := by
  rw [Snap.after, Snap.after, drop_take_succ hk]
  rfl

/-- The transaction of `s`, whose snapshot is `p`, stands after its first `k` events in `t`, the card having answered
the first `k` of the bits `ms`. -/
structure Shifting (s : State) (p : Snap) (ms rest : List Bool) (k : Nat) (t : State) : Prop where
  snap : t.snap = some (p.after ms k)
  engine : t.engine = s.engine
  latch : t.latch = s.latch
  miso : t.env.miso = ms.drop k ++ rest
  draws : t.env.draws = s.env.draws
  sclk : t.lines.sclk = s.lines.sclk + k
  /-- Chip-select is asserted at the next event, if the transaction's bits reach the device (R221). -/
  cs : p.csMode = .hardware ∨ s.lines.cs = some .asserted → (t.csBefore (p.after ms k)).lines.cs = some .asserted
  sent : p.csMode = .hardware ∨ s.lines.cs = some .asserted → ∀ d dv, s.latch.dev = some d → s.devices[d]? = some dv →
    t.devices[d]? = some { dv with wire := dv.wire ++ p.mosi.take k }

section

variable {s t : State} {p : Snap} {ms rest : List Bool} {k : Nat}

theorem shifting_start (hs : s.snap = some p) (hp : p.Legal) (h0 : p.pos = 0) (hmiso : s.env.miso = ms ++ rest) :
    Shifting s p ms rest 0 s where
  snap := by rw [hs, Snap.after_zero hp h0]
  engine := rfl
  latch := rfl
  miso := hmiso
  draws := rfl
  sclk := rfl
  cs := by
    intro h
    rw [Snap.after_zero hp h0, State.csBefore_cs, h0]
    rcases h with h | h
    · exact if_pos ⟨h, rfl⟩
    · rw [h, ite_self]
  sent := fun _ d dv _ hdv => by simpa using hdv

/-- One more event: its bit is sent, and the card's next answer is sampled. -/
theorem Shifting.clockEvent (h : Shifting s p ms rest k t) (hk : k < p.mosi.length) (hms : ms.length = p.mosi.length) :
    Shifting s p ms rest (k + 1) (clockEvent t (p.after ms k)) := by
  have hkm : k < ms.length := by omega
  have hdraw : t.drawBit = (ms[k], t.withEnv { t.env with miso := ms.drop (k + 1) ++ rest }) :=
    State.drawBit_cons (by rw [h.miso, List.drop_eq_getElem_cons hkm]; rfl)
  have hcs : (Machine.clockEvent t (p.after ms k)).lines.cs = (t.csBefore (p.after ms k)).lines.cs := by
    rw [clockEvent_cs, State.csBefore_cs]
  refine ⟨?snap, by simpa using h.engine, by simpa using h.latch, ?miso, ?draws, ?sclk, fun hd => ?cs,
    fun hd d dv hl hdv => ?sent⟩
  case snap => rw [clockEvent_snap, hdraw, Snap.after_sampled hkm]
  case miso => rw [clockEvent_eq, hdraw]; rfl
  case draws => rw [clockEvent_eq, hdraw]; exact h.draws
  case sclk => rw [clockEvent_eq]; exact congrArg (· + 1) h.sclk
  case cs =>
    rw [State.csBefore_cs, hcs, h.cs hd, ite_self]
  case sent =>
    have hsel : (t.csBefore (p.after ms k)).selected d = true := by
      rw [State.selected, h.cs hd, State.csBefore_eq, State.withLines_latch, h.latch, hl]
      simp
    have hbit : (p.after ms k).mosi[(p.after ms k).pos]? = some p.mosi[k] := List.getElem?_eq_getElem hk
    rw [clockEvent_device _ _ (h.sent hd d dv hl hdv), hsel, if_pos rfl, hbit, Option.getD_some, List.append_assoc,
      List.take_append_getElem hk]

theorem shifting_shifterRun (hs : Shifting s p ms rest 0 s) (hms : ms.length = p.mosi.length) (hk : k < p.mosi.length) :
    Shifting s p ms rest k (shifterRun k s) := by
  induction k with
  | zero => exact hs
  | succ k ih =>
    have h := ih (by omega)
    rw [shifterRun_succ, shifterStep_event h.snap hk]
    exact h.clockEvent (by omega) hms

/-- The last event and the end of the transaction, in one step. -/
theorem shifterRun_last (hs : Shifting s p ms rest 0 s) (hms : ms.length = p.mosi.length) (hne : p.mosi ≠ []) :
    ∃ t, Shifting s p ms rest p.mosi.length t ∧
      shifterRun p.mosi.length s = finishTransfer t (p.after ms p.mosi.length) := by
  obtain ⟨n, hn⟩ : ∃ n, p.mosi.length = n + 1 := Nat.exists_eq_succ_of_ne_zero (mt List.length_eq_zero_iff.1 hne)
  have h := shifting_shifterRun hs hms (k := n) (by omega)
  have hlast := h.clockEvent (by omega) hms
  refine ⟨_, hn ▸ hlast, ?_⟩
  have hsnap := hlast.snap
  rw [clockEvent_snap, Option.some.injEq] at hsnap
  rw [hn, shifterRun_succ, shifterStep_last h.snap hn.symm, hsnap]

end

/-- Settles O31: by induction over the events (`Shifting`); the last one is followed by `finishTransfer` in its step. -/
theorem shifterMovesTheBits : Obligations.ShifterMovesTheBits := by
  unfold Obligations.ShifterMovesTheBits
  refine ⟨fun s p hs hp => ⟨fun h => ?driven, fun hsh hd => ?notDriven⟩, fun s p => shifterStep_nothing,
    fun s p ms rest hs hb hp h0 hne hmiso hms => ?_⟩
  case driven =>
    have hd : ¬ (s.latch.sharedIo = some true ∧ p.driven ≤ p.pos) := fun ⟨hsh, hd⟩ => by
      rcases h with h | h
      · exact h hsh
      · omega
    rw [shifterStep_mosi hs hp, drivenBit, if_neg hd, List.getElem?_eq_getElem hp]
  case notDriven => rw [shifterStep_mosi hs hp, drivenBit, if_pos ⟨hsh, hd⟩]
  have hstart := shifting_start hs hp h0 hmiso
  obtain ⟨t, ht, hrun⟩ := shifterRun_last hstart hms hne
  have hall : (p.after ms p.mosi.length).samples = ms.drop (p.mosi.length - p.inLen) := by
    rw [Snap.after, ← hms, List.take_length]
  rw [hrun]
  refine ⟨fun k hk => ?busy, finishTransfer_busy _ _, finishTransfer_snap _ _, ?miso, ?sclk, ?engine,
    fun d dv hd hl hdv => ?sent⟩
  case busy => rw [(shifting_shifterRun hstart hms hk).engine, hb]
  case miso =>
    rw [finishTransfer_eq]
    refine ht.miso.trans ?_
    rw [← hms, List.drop_length, List.nil_append]
  case sclk =>
    rw [finishTransfer_eq]
    exact ht.sclk
  case engine =>
    rw [finishTransfer_eq, hall, ht.engine, ht.draws]
    rfl
  case sent =>
    rw [finishTransfer_devices, ht.sent hd d dv hl hdv, List.take_length]

end Sys2Proof.Machine

/-! PROOFS. Block numbers, block reads and writes, and register reads (O53, O55, O56, O58): the step of a program that
stands at one of its places. -/

namespace Sys2Proof.Machine

open Sys2Proof

section

variable {i : Instr} {s : State} {d first count buf n : Nat} {x x0 : Ctx} {dv : Device} {pc : SeqPc}
  {r : Option PrimResult}

/-! ### The step of a program at a place (R31, R59) -/

/-- Where a context stands at step `pc`, its program computes with `pc` written in the context. -/
theorem Program.step_at {prog : Program} {o : Outcome} (hpc : x.pc = pc)
    (ho : ∀ y : Ctx, x = { y with pc := pc } → prog s x r = o) : prog s x r = o := ho x (by rw [← hpc])

theorem operation_awaits {prog : Program} (ha : s.awaits x (phaseOf r)) : operation x0 prog s = prog s x r := by
  simp only [operation, ha.1]
  exact runProgram_awaits ha

theorem sequencerStart_readsBlocks (hi : readsBlocks i d first count buf) (hcount : 0 < count) :
    sequencerStart i = some (d, opening d .beginOp (some (buf, 512 * count))) := by
  obtain rfl | rfl := hi <;> exact if_neg (by omega)

theorem sequencerStart_writesBlocks (hi : writesBlocks i d first count buf) (hcount : 0 < count) :
    sequencerStart i = some (d, opening d .beginOp (some (buf, 512 * count))) := by
  obtain rfl | rfl := hi <;> exact if_neg (by omega)

/-- Where its program gets control, a block read's step is the program's, whoever it delivers to. -/
theorem exec_readsBlocks {o : Outcome} (hi : readsBlocks i d first count buf) (hcount : 0 < count)
    (hd : s.devices[d]? = some dv) (hs : s.stands x pc (phaseOf r))
    (ho : ∀ deliver (y : Ctx), x = { y with pc := pc } → readProgram d first count buf deliver s x r = o) :
    exec i s = o := by
  refine (exec_awaits (sequencerStart_readsBlocks hi hcount) hd hs.1).trans (Program.step_at hs.2 ?_)
  obtain rfl | rfl := hi <;> exact ho _

theorem exec_writesBlocks {o : Outcome} (hi : writesBlocks i d first count buf) (hcount : 0 < count)
    (hd : s.devices[d]? = some dv) (hs : s.stands x pc (phaseOf r))
    (ho : ∀ deliver (y : Ctx), x = { y with pc := pc } → writeProgram d first count buf deliver s x r = o) :
    exec i s = o := by
  refine (exec_awaits (sequencerStart_writesBlocks hi hcount) hd hs.1).trans (Program.step_at hs.2 ?_)
  obtain rfl | rfl := hi <;> exact ho _

theorem exec_registerRead {o : Outcome} (hi : registerRead i d buf) (hd : s.devices[d]? = some dv)
    (hs : s.stands x pc (phaseOf r))
    (ho : ∀ rev store deliver (y : Ctx), x = { y with pc := pc } → registerProgram d rev store deliver s x r = o) :
    exec i s = o := by
  obtain rfl | rfl | rfl := hi <;>
    exact (exec_awaits rfl hd hs.1).trans (Program.step_at hs.2 (ho _ _ _))

theorem withBlock_of {k : Nat} {f : Nat → Outcome} (hk : x.k = some k) : withBlock x f = f k := by
  simp only [withBlock, hk]

/-! ### Block numbers as arguments (R91, R92) -/

theorem cardAddr_true : cardAddr true n = if n < 2 ^ 32 then some (BitVec.ofNat 32 n) else none := rfl

theorem cardAddr_false : cardAddr false n = if n < 2 ^ 23 then some (BitVec.ofNat 32 (n * 512)) else none :=
  (if_neg Bool.false_ne_true).trans (if_congr (by omega) rfl rfl)

theorem withAddr_of {k : BitVec 32 → Outcome} {a : BitVec 32} (hd : s.devices[d]? = some dv)
    (ha : cardAddr dv.hc n = some a) : withAddr d n s k = k a := by simp only [withAddr, hd, ha]

theorem withAddr_range {k : BitVec 32 → Outcome} (hd : s.devices[d]? = some dv) (ha : cardAddr dv.hc n = none) :
    withAddr d n s k = .refused .addrRange := by simp only [withAddr, hd, ha]

/-- One block is read with the single command, several with the multiple one (R331). -/
theorem exec_readCommand (count : Nat) (a : BitVec 32) (s : State) :
    exec ((if count = 1 then Instr.cmd17ReadSingleBlock else Instr.cmd18ReadMultipleBlock) a) s =
      if count = 1 then execCmd17ReadSingleBlock a s else execCmd18ReadMultipleBlock a s := by
  split <;> rfl

/-- At a step that sends a block number a program gives its command the number's address (R331, R339, R346, R355). -/
theorem sequencerProgram_addressed {send : BitVec 32 → Instr} (ha : addressed i pc = some (n, send))
    (h : sequencerStart i = some (d, x0)) (hpc : x.pc = pc) :
    sequencerProgram i s x none = withAddr d n s fun a => exec (send a) s := by
  refine Program.step_at hpc fun y hx => ?_
  subst hx
  unfold addressed at ha
  split at ha <;> cases ha <;>
    simp only [sequencerStart, Option.ite_none_left_eq_some, Option.some.injEq, Prod.mk.injEq] at h
  case h_1 | h_2 =>
    obtain ⟨-, rfl, -⟩ := h
    exact congrArg (withAddr _ n s) (funext fun a => (exec_readCommand _ a s).symm)
  case h_3 | h_4 | h_5 | h_6 =>
    obtain ⟨-, rfl, -⟩ := h
    rfl
  case h_7 | h_8 =>
    obtain ⟨rfl, -⟩ := h
    rfl

/-- At a step that sends a block number the command has the number's address, with the flag as it stands, or the
operation is refused. -/
theorem exec_addressed {send : BitVec 32 → Instr} (ha : addressed i pc = some (n, send))
    (h : sequencerStart i = some (d, x0)) (hd : s.devices[d]? = some dv) (hs : s.stands x pc .ready) :
    (cardAddr dv.hc n = none → exec i s = .refused .addrRange) ∧
    ∀ a, cardAddr dv.hc n = some a → exec i s = exec (send a) s := by
  rw [exec_awaits (r := none) h hd hs.1, sequencerProgram_addressed ha h hs.2]
  exact ⟨withAddr_range hd, fun a => withAddr_of hd⟩

end

/-- Settles O53: `cardAddr` with either flag, and each step of `addressed` by its program (`exec_addressed`). -/
theorem blockNumbersBecomeAddresses : Obligations.BlockNumbersBecomeAddresses := by
  unfold Obligations.BlockNumbersBecomeAddresses
  refine ⟨fun n => ?high, fun n => ?low, fun n a h => ?number, fun n a h => ?offset,
    fun i pc n send s x x0 d dv ha h hd hs => exec_addressed ha h hd hs⟩
  case high => simp [cardAddr_true]
  case low => simp [cardAddr_false]
  case number =>
    rw [cardAddr_true, Option.ite_none_right_eq_some] at h
    obtain ⟨hlt, ha⟩ := h
    cases ha
    exact Nat.mod_eq_of_lt hlt
  case offset =>
    rw [cardAddr_false, Option.ite_none_right_eq_some] at h
    obtain ⟨hlt, ha⟩ := h
    cases ha
    rw [BitVec.toNat_ofNat, Nat.mod_eq_of_lt (by omega), Nat.mul_comm]

/-! ### Block reads (R330 to R335) -/

section

variable {s u : State} {x y : Ctx} {dst : Dest} {off left : Nat}

/-- The context after `n` more bytes of a stream have been stored: the stream is over, or its next chunk is asked
for (R255). -/
def Ctx.afterChunk (x : Ctx) (dst : Dest) (off left n : Nat) : Ctx :=
  if left = n then { x with phase := .done .ok }
  else { x with phase := .streamIn dst (off + n) (left - n), micro := xferIn (min 64 (left - n)) }

theorem Ctx.finish_of_micro (hm : x.micro = []) (r : PrimResult) : x.finish r = { x with phase := .done r } := by
  rw [Ctx.finish, ← hm]

/-- A chunk that has been read is stored, and its stream goes on. -/
theorem primitiveStep_streamIn (ha : s.awaits x (.streamIn dst off left)) (hne : x.tmp ≠ []) (hle : x.tmp.length ≤ left)
    (hstored : storeAt s x dst off x.tmp = some (u, y)) (hm : y.micro = []) :
    primitiveStep s x = .next (u.withCtx (y.afterChunk dst off left x.tmp.length)) := by
  have hrest : (left - x.tmp.length = 0 ∨ x.tmp = []) ↔ left = x.tmp.length := by
    rw [or_iff_left hne]
    omega
  simp only [primitiveStep, ha.2.2, chunkIn, hstored, hrest, Ctx.finish_of_micro hm]
  rfl

theorem primitiveStep_streamIn_refused (ha : s.awaits x (.streamIn dst off left))
    (hstored : storeAt s x dst off x.tmp = none) : primitiveStep s x = .refused .bufferOwned := by
  simp only [primitiveStep, ha.2.2, chunkIn, hstored]

end

theorem addressed_readsBlocks {i : Instr} {d first count buf : Nat} (hi : readsBlocks i d first count buf) :
    addressed i .rdCommand =
      some (first, if count = 1 then .cmd17ReadSingleBlock else .cmd18ReadMultipleBlock) := by
  obtain rfl | rfl := hi <;> rfl

/-- After a block's trailer: the next block, the stop command, or the end (R332 to R334). -/
theorem readNext_of {s : State} {x : Ctx} {k count : Nat} (hk : x.k = some k) :
    readNext count s x = .next (s.withCtx
      (if k + 1 < count then { x with k := some (k + 1) }.goto .rdToken
        else if 1 < count then { x with k := some (k + 1) }.goto .rdStop
        else { x with k := some (k + 1) }.exits .ok)) := by
  rw [readNext, withBlock_of hk]
  split
  · rfl
  · split <;> rfl

/-- Settles O55: the places of `readProgram`, and a chunk of a stream by `primitiveStep_streamIn`. -/
theorem readsFillTheBuffer : Obligations.ReadsFillTheBuffer := by
  unfold Obligations.ReadsFillTheBuffer
  refine ⟨fun i s x d first count buf dv hi hcount hd => ?program, fun s x dst off left ha hne hle => ?stream⟩
  case program =>
    have ready {pc : SeqPc} {o : Outcome} (hs : s.stands x pc .ready)
        (ho : ∀ deliver (y : Ctx), x = { y with pc := pc } → readProgram d first count buf deliver s x none = o) :
        exec i s = o := exec_readsBlocks (r := none) hi hcount hd hs ho
    have done {pc : SeqPc} {p : PrimResult} {o : Outcome} (hs : s.stands x pc (.done p))
        (ho : ∀ deliver (y : Ctx), x = { y with pc := pc } → readProgram d first count buf deliver s x (some p) = o) :
        exec i s = o := exec_readsBlocks (r := some p) hi hcount hd hs ho
    refine ⟨fun hs => done hs fun _ _ h => h ▸ rfl, fun a hs ha => ?command, fun hs => done hs fun _ _ h => h ▸ rfl,
      fun hs => ready hs fun _ _ h => h ▸ rfl, fun hs => done hs fun _ _ h => h ▸ rfl,
      fun hs => done hs fun _ _ h => h ▸ rfl, fun hs => done hs fun _ _ h => h ▸ rfl,
      fun k hs hk => ready hs fun _ _ h => ?data, fun hs => done hs fun _ _ h => h ▸ rfl,
      fun hs => ready hs fun _ _ h => h ▸ rfl, fun k hs hk => done hs fun _ _ h => ?trailer,
      fun hs => ready hs fun _ _ h => h ▸ rfl, fun hs => done hs fun _ _ h => h ▸ rfl⟩
    case data =>
      subst h
      exact withBlock_of hk
    case trailer =>
      subst h
      exact readNext_of hk
    case command =>
      have hstart := sequencerStart_readsBlocks hi hcount
      rw [(exec_addressed (addressed_readsBlocks hi) hstart hd hs).2 a ha, ite_apply]
  case stream =>
    intro y
    refine ⟨fun hdst => ?scratch, fun base hdst => ⟨fun hfree => ?store, fun hown => ?owned⟩⟩
    case scratch =>
      subst hdst
      exact primitiveStep_streamIn ha hne hle rfl ha.2.1
    case store =>
      subst hdst
      have hw := State.writeBuffer_of_free hfree
      exact primitiveStep_streamIn ha hne hle (by rw [storeAt, hw]; rfl) ha.2.1
    case owned =>
      subst hdst
      exact primitiveStep_streamIn_refused ha (by rw [storeAt, State.writeBuffer_owned hown]; rfl)

end Sys2Proof.Machine

/-! PROOFS. Block writes and register reads (O56, O58). -/

namespace Sys2Proof.Machine

open Sys2Proof

/-! ### Block writes (R339, R347, R349) -/

/-- The stretch of memory that a buffer read gives, byte by byte. -/
theorem Memory.readBytes_eq (m : List Host.Cell) (base n : Nat) :
    Memory.readBytes m base n = (List.range n).map fun j => Memory.read m (base + j) := by
  induction n generalizing base with
  | zero => rfl
  | succ n ih =>
    rw [List.range_succ_eq_map, List.map_cons, List.map_map, Memory.readBytes, ih]
    refine congrArg (Memory.read m base :: ·) (List.map_congr_left fun j _ => ?_)
    rw [Function.comp_apply, Nat.succ_eq_add_one, show base + (j + 1) = base + 1 + j by omega]

section

variable {s : State} {x : Ctx} {base off left : Nat}

theorem sendChunk_of {bs : List Byte} (h : s.readBuffer (base + off) (min 64 left) = some bs) :
    sendChunk s x base off left = .next (s.withCtx
      { x with phase := .streamOut base (off + min 64 left) (left - min 64 left), micro := xferOut bs }) := by
  change s.readBuffer (base + off) (min Config.chunk left) = some bs at h
  simp only [sendChunk, h]
  rfl

theorem sendChunk_owned (h : ownedByOther s.cur (base + off) (min 64 left) 0 s.clients = true) :
    sendChunk s x base off left = .refused .bufferOwned := by
  have hnone := State.readBuffer_owned h
  change s.readBuffer (base + off) (min Config.chunk left) = none at hnone
  simp only [sendChunk, hnone]

/-- A chunk that has been sent: its stream is over, or the next chunk is sent (R256). -/
theorem primitiveStep_streamOut (ha : s.awaits x (.streamOut base off left)) :
    primitiveStep s x =
      if left = 0 then .next (s.withCtx { x with phase := .done .ok }) else sendChunk s x base off left := by
  simp only [primitiveStep, ha.2.2, chunkOut, Ctx.finish_of_micro ha.2.1]
  rfl

end

/-- Settles O56: the places of `writeProgram`, and the chunks of a stream by `sendChunk`. -/
theorem writesSendTheBuffer : Obligations.WritesSendTheBuffer := by
  unfold Obligations.WritesSendTheBuffer
  refine ⟨fun i s x d first count buf dv hi hcount hd => ?program, fun s x base off left ha => ?stream,
    fun s base n hfree => ?bytes⟩
  case program =>
    have ready {pc : SeqPc} {o : Outcome} (hs : s.stands x pc .ready)
        (ho : ∀ deliver (y : Ctx), x = { y with pc := pc } → writeProgram d first count buf deliver s x none = o) :
        exec i s = o := exec_writesBlocks (r := none) hi hcount hd hs ho
    have done {pc : SeqPc} {p : PrimResult} {o : Outcome} (hs : s.stands x pc (.done p))
        (ho : ∀ deliver (y : Ctx), x = { y with pc := pc } → writeProgram d first count buf deliver s x (some p) = o) :
        exec i s = o := exec_writesBlocks (r := some p) hi hcount hd hs ho
    refine ⟨fun hs => ready hs fun _ _ h => h ▸ rfl, fun hs => done hs fun _ _ h => h ▸ rfl,
      fun bs hs hbs => ready hs fun _ _ h => ?single, fun hs hown => ready hs fun _ _ h => ?singleOwned,
      fun hs => done hs fun _ _ h => h ▸ rfl, fun hs => done hs fun _ _ h => h ▸ rfl,
      fun hs => done hs fun _ _ h => h ▸ rfl, fun hs => done hs fun _ _ h => h ▸ rfl,
      fun hs => ready hs fun _ _ h => h ▸ rfl, fun hs => done hs fun _ _ h => h ▸ rfl,
      fun k hs hk => ⟨fun bs hbs => ready hs fun _ _ h => ?multi, fun hown => ready hs fun _ _ h => ?multiOwned⟩,
      fun hs => done hs fun _ _ h => h ▸ rfl, fun hs => done hs fun _ _ h => h ▸ rfl,
      fun hs => ready hs fun _ _ h => h ▸ rfl, ?trailer, ?response⟩
    case single =>
      subst h
      exact sendChunk_of (off := 0) (left := 512) hbs
    case singleOwned =>
      subst h
      exact sendChunk_owned (off := 0) (left := 512) hown
    case multi =>
      subst h
      exact (withBlock_of hk).trans (sendChunk_of (off := 0) (left := 512) hbs)
    case multiOwned =>
      subst h
      exact (withBlock_of hk).trans (sendChunk_owned (off := 0) (left := 512) hown)
    case trailer =>
      rintro (hs | hs)
      · exact ready hs fun _ _ h => h ▸ rfl
      · exact ready hs fun _ _ h => h ▸ rfl
    case response =>
      rintro (hs | hs)
      · exact ready hs fun _ _ h => h ▸ rfl
      · exact ready hs fun _ _ h => h ▸ rfl
  case stream =>
    rw [primitiveStep_streamOut ha]
    refine ⟨fun h0 => if_pos h0, fun bs hpos hbs => ?_, fun hpos hown => ?_⟩
    · rw [if_neg hpos.ne', sendChunk_of hbs]
    · rw [if_neg hpos.ne', sendChunk_owned hown]
  case bytes => rw [State.readBuffer_free hfree, Memory.readBytes_eq]; rfl

/-! ### Register reads (R370, R371) -/

section

variable {s : State} {x : Ctx} {d buf : Nat}

theorem storeRegister_of_free {bs : List Byte} (h : ownedByOther s.cur buf bs.length 0 s.clients = false) :
    storeRegister buf s x bs = .next ((s.withMem (Memory.writeBytes s.mem buf bs)).withCtx (x.exits .ok)) := by
  rw [storeRegister, State.writeBuffer_of_free h]
  rfl

theorem storeRegister_owned {bs : List Byte} (h : ownedByOther s.cur buf bs.length 0 s.clients = true) :
    storeRegister buf s x bs = .refused .bufferOwned := by
  rw [storeRegister, State.writeBuffer_owned h]

/-- At its last step before the exit a register read stores its image (R370, R371). -/
theorem exec_sdReadCid_store (hs : s.stands x .rgStore .ready) :
    exec (.sdReadCid d buf) s = storeRegister buf s x x.image :=
  (operation_awaits (r := none) hs.1).trans (registerProgram_rgStore hs.2)

theorem exec_sdReadCsd_store (hs : s.stands x .rgStore .ready) :
    exec (.sdReadCsd d buf) s = storeRegister buf s x x.image.reverse :=
  (operation_awaits (r := none) hs.1).trans (registerProgram_rgStore hs.2)

/-- Until the image is stored a register read has no effect on caller memory. -/
theorem effect_registerProgram_unstored {rev : Bool} {store : State → Ctx → List Byte → Outcome}
    {deliver : State → Ctx → Res → Outcome} (hpc : x.pc ≠ .rgStore) (hx : s.ctx = some x) (hst : ¬ x.storing)
    (hd : ∀ res, AllNext (Effect false false s) (deliver s x res)) :
    AllNext (Effect false false s) (runProgram (registerProgram d rev store deliver) s x) := by
  refine effect_runProgram _ _ _ (.inr hst) fun r => ?_
  rw [registerProgram_store_congr (store' := keepRegister) hpc]
  refine effect_registerProgram _ _ _ _ _ _ _ (.inr fun y hy => ?_) (fun _ => effect_endWith _ _ _) hd
  exact Option.some.inj (hx.symm.trans hy) ▸ hst

end

/-- Settles O58: the places of `registerProgram`, the image as one chunk, and one store of it, the CSD's reversed. -/
theorem registerImages : Obligations.RegisterImages := by
  unfold Obligations.RegisterImages
  refine ⟨fun i s x d buf dv hi hd => ?program, fun s x ha hlen => ?image,
    fun s x d buf hs hlen hwf hfree => ?stored⟩
  case program =>
    have ready {pc : SeqPc} {o : Outcome} (hs : s.stands x pc .ready)
        (ho : ∀ rev store deliver (y : Ctx), x = { y with pc := pc } →
          registerProgram d rev store deliver s x none = o) : exec i s = o :=
      exec_registerRead (r := none) hi hd hs ho
    have done {pc : SeqPc} {p : PrimResult} {o : Outcome} (hs : s.stands x pc (.done p))
        (ho : ∀ rev store deliver (y : Ctx), x = { y with pc := pc } →
          registerProgram d rev store deliver s x (some p) = o) : exec i s = o :=
      exec_registerRead (r := some p) hi hd hs ho
    refine ⟨fun hs => done hs fun _ _ _ _ h => h ▸ rfl, fun hs => ?command, fun hs => done hs fun _ _ _ _ h => h ▸ rfl,
      fun hs => ready hs fun _ _ _ _ h => h ▸ rfl, fun hs => done hs fun _ _ _ _ h => h ▸ rfl,
      fun hs => done hs fun _ _ _ _ h => h ▸ rfl, fun hs => done hs fun _ _ _ _ h => h ▸ rfl,
      fun hs => ready hs fun _ _ _ _ h => h ▸ rfl, fun hs => done hs fun _ _ _ _ h => h ▸ rfl,
      fun hs => ready hs fun _ _ _ _ h => h ▸ rfl, fun hs => done hs fun _ _ _ _ h => h ▸ rfl,
      fun hs hi => ?kept, fun hs hne hown => ?owned, fun t hx hpc hst ht => ?unstored⟩
    case command =>
      have command {rev : Bool} {store : State → Ctx → List Byte → Outcome} {deliver : State → Ctx → Res → Outcome} :
          registerProgram d rev store deliver s x none = if rev then execCmd9SendCsd s else execCmd10SendCid s :=
        Program.step_at hs.2 fun _ h => h ▸ rfl
      obtain rfl | rfl | rfl := hi
      · rw [if_pos rfl, exec_awaits (r := none) rfl hd hs.1]
        exact command
      · rw [if_neg nofun, exec_awaits (r := none) rfl hd hs.1]
        exact command
      · rw [if_neg nofun, exec_awaits (r := none) rfl hd hs.1]
        exact command
    case kept =>
      subst hi
      exact (exec_awaits (r := none) rfl hd hs.1).trans (registerProgram_rgStore hs.2)
    case owned =>
      obtain rfl | rfl | rfl := hi
      · rw [exec_sdReadCid_store hs, storeRegister_owned hown]
      · rw [exec_sdReadCsd_store hs, storeRegister_owned (by rwa [List.length_reverse])]
      · exact absurd rfl hne
    case unstored =>
      have hns : ¬ x.storing := fun ⟨b, o, l, hp⟩ => hst b o l hp
      obtain rfl | rfl | rfl := hi
      · rw [exec_running rfl hd hx] at ht
        exact (effect_registerProgram_unstored hpc hx hns (fun _ => effect_complete _ _) t ht).mem_eq
      · rw [exec_running rfl hd hx] at ht
        exact (effect_registerProgram_unstored hpc hx hns (fun _ => effect_complete _ _) t ht).mem_eq
      · have hns' : ∀ y, s.ctx = some y → ¬ y.storing := fun y hy => Option.some.inj (hx.symm.trans hy) ▸ hns
        exact (exec_effect (.blockCount d) s t false nofun (.inr hns') ht).mem_eq
  case image =>
    have hne : x.tmp ≠ [] := List.ne_nil_of_length_pos (by omega)
    rw [primitiveStep_streamIn ha hne (by omega) rfl ha.2.1, Ctx.afterChunk, if_pos hlen.symm]
    rfl
  case stored =>
    have hlen' : x.image.reverse.length = 16 := by rw [List.length_reverse, hlen]
    refine ⟨_, _, (exec_sdReadCid_store hs).trans (storeRegister_of_free (hlen.symm ▸ hfree)),
      (exec_sdReadCsd_store hs).trans (storeRegister_of_free (hlen'.symm ▸ hfree)), fun k b hk => ?inside,
      fun a ha => ⟨?cid, ?csd⟩⟩
    case inside =>
      obtain ⟨hlt, rfl⟩ := List.getElem?_eq_some_iff.1 hk
      refine ⟨Memory.read_writeBytes_inside hwf buf _ k hlt, ?_⟩
      rw [Memory.read_writeBytes_inside hwf buf _ (15 - k) (by omega), List.getElem_reverse]
      congr 1
      omega
    case cid => exact Memory.read_writeBytes_outside hwf buf _ a (hlen.symm ▸ ha)
    case csd => exact Memory.read_writeBytes_outside hwf buf _ a (hlen'.symm ▸ ha)

end Sys2Proof.Machine

/-! PROOFS. Bytes that decode are an encoding, and the OPCs outside the map (O1, O2, O3, O6, O7). -/

namespace Sys2Proof

/-- Settles O1: the decoder's law for every well-formed instruction. -/
theorem decodeReadsEveryEncoding : Obligations.DecodeReadsEveryEncoding := by
  unfold Obligations.DecodeReadsEveryEncoding
  exact decodeAt_encode

/-- What bytes that decode at a port have to be: the encoding of a well-formed instruction of that port, and what is
left over. -/
def Spells (port : Port) (bs : List Byte) (d : Decoded) : Prop :=
  ∀ i rest, d = .ok (i, rest) → i.wellFormed = true ∧ portOf i = port ∧ bs = encode i ++ rest

theorem spells_error {port : Port} {bs : List Byte} {e : DecodeError} : Spells port bs (.error e) := by
  intro i rest h
  cases h

theorem spells_ok {port : Port} {bs rest : List Byte} {i : Instr} (hw : i.wellFormed = true) (hp : portOf i = port)
    (he : bs = encode i ++ rest) : Spells port bs (.ok (i, rest)) := by
  rintro _ _ ⟨⟩
  exact ⟨hw, hp, he⟩

theorem spells_ite {port : Port} {bs : List Byte} {c : Prop} [Decidable c] {d e : Decoded}
    (hd : c → Spells port bs d) (he : ¬ c → Spells port bs e) : Spells port bs (if c then d else e) := by
  split
  case isTrue h => exact hd h
  case isFalse h => exact he h

/-! ### Requests (R120 to R122) -/

/-- A reading of a request whose first bytes `pre` are read and of which `bs` is left: it spells those bytes, and its
OPC is in the map of R121. -/
structure Reads (pre bs : List Byte) (d : Decoded) : Prop where
  spells : Spells .request (pre ++ bs) d
  mapped : d ≠ .error .illegalOpcode

section

variable {pre bs : List Byte}

theorem reads_ok {i : Instr} (hw : i.wellFormed = true) (hp : portOf i = .request) (he : encode i = pre) :
    Reads pre bs (.ok (i, bs)) where
  spells := spells_ok hw hp (by rw [he])
  mapped := nofun

/-- An operand field is the first of two errors, or its number and the rest of the bytes. -/
theorem operand_cases (n limit : Nat) (bs : List Byte) :
    operand n limit bs = .error .truncated ∨ operand n limit bs = .error .operandWidth ∨
      ∃ v rest, operand n limit bs = .ok (v, rest) := by
  unfold operand
  split
  · exact .inl rfl
  · split
    · exact .inr (.inr ⟨_, _, rfl⟩)
    · exact .inr (.inl rfl)

theorem reads_operand {n limit : Nat} {k : Nat × List Byte → Decoded}
    (h : ∀ v rest, v < limit → Reads (pre ++ bytesLE n v) rest (k (v, rest))) :
    Reads pre bs (operand n limit bs >>= k) := by
  obtain he | he | ⟨v, rest, he⟩ := operand_cases n limit bs
  · exact he ▸ ⟨spells_error, nofun⟩
  · exact he ▸ ⟨spells_error, nofun⟩
  · obtain ⟨hv, rfl⟩ := operand_ok he
    rw [he, ok_bind]
    exact ⟨List.append_assoc pre _ _ ▸ (h v rest hv).spells, (h v rest hv).mapped⟩

theorem reads_operand32 {k : Nat × List Byte → Decoded}
    (h : ∀ v rest, fits32 v = true → Reads (pre ++ bytesLE 4 v) rest (k (v, rest))) :
    Reads pre bs (operand32 bs >>= k) :=
  reads_operand fun v rest hv => h v rest (by simpa [fits32] using hv)

end

/-- The OPCs outside the map of R121 (R122). -/
def OutsideTheMap (opc : Nat) : Prop := opc = 0x0F ∨ (0x16 ≤ opc ∧ opc ≤ 0x1F) ∨ 0x27 ≤ opc

theorem toNat_ofNat {w v : Nat} (h : v < 2 ^ w) : (BitVec.ofNat w v).toNat = v := by
  rw [BitVec.toNat_ofNat, Nat.mod_eq_of_lt h]

theorem flag_toNat {v : Nat} (h : v < 2) : (v == 1).toNat = v := by
  obtain rfl | rfl : v = 0 ∨ v = 1 := by omega
  · rfl
  · rfl

/-- What each OPC is: outside the map, or read with the operands of its row (R121, R122). The cases are the OPCs in
rising order, grouped by the operands they have. -/
theorem decodeOperands_cases (opc : Nat) (bs : List Byte) :
    (OutsideTheMap opc ∧ decodeOperands opc bs = .error .illegalOpcode) ∨
      (¬ OutsideTheMap opc ∧ Reads [BitVec.ofNat 8 opc] bs (decodeOperands opc bs)) := by
  unfold decodeOperands
  split
  case h_29 =>
    refine .inl ⟨?_, rfl⟩
    simp only [imp_false] at *
    unfold OutsideTheMap
    omega
  all_goals refine .inr ⟨by unfold OutsideTheMap; omega, ?_⟩
  -- no operand
  case h_1 | h_3 | h_5 | h_6 | h_7 | h_13 | h_14 => exact reads_ok rfl rfl rfl
  -- one to four numbers of 32 bits
  case h_2 | h_15 | h_16 | h_22 | h_23 | h_26 | h_27 | h_28 =>
    exact reads_operand32 fun v _ hv => reads_ok hv rfl rfl
  case h_20 | h_21 =>
    exact reads_operand32 fun d _ hd => reads_operand32 fun buf _ hb =>
      reads_ok (by simp [Instr.wellFormed, hd, hb]) rfl rfl
  case h_19 =>
    exact reads_operand32 fun d _ hd => reads_operand32 fun f _ hf => reads_operand32 fun l _ hl =>
      reads_ok (by simp [Instr.wellFormed, hd, hf, hl]) rfl rfl
  case h_17 | h_18 | h_24 | h_25 =>
    exact reads_operand32 fun d _ hd => reads_operand32 fun f _ hf => reads_operand32 fun n _ hn =>
      reads_operand32 fun buf _ hb => reads_ok (by simp [Instr.wellFormed, hd, hf, hn, hb]) rfl rfl
  -- a pattern of bits, alone or behind its length
  case h_4 => exact reads_operand fun w _ hw => reads_ok rfl rfl (by rw [encode, toNat_ofNat hw]; rfl)
  case h_8 | h_9 | h_11 =>
    exact reads_operand fun len _ hlen => reads_operand fun v _ hv =>
      reads_ok (by simpa [Instr.wellFormed] using hlen) rfl (by rw [encode, toNat_ofNat hv]; rfl)
  -- set_output and configure_exec
  case h_10 =>
    exact reads_operand fun len _ hlen => reads_operand32 fun r _ hr =>
      reads_ok (by simpa [Instr.wellFormed] using ⟨hlen, hr⟩) rfl rfl
  case h_12 =>
    exact reads_operand fun beo _ hbeo => reads_operand fun d _ hd => reads_operand fun r _ hr =>
      reads_operand fun bei _ hbei => reads_ok (by simpa [Instr.wellFormed] using ⟨hd, hr⟩) rfl
        (by rw [encode, flag_toNat hbeo, flag_toNat hbei]; rfl)

/-- Bytes that decode as a request are its encoding (R120 to R122). -/
theorem decodeRequest_spells (bs : List Byte) : Spells .request bs (decodeRequest bs) := by
  cases bs with
  | nil => exact spells_error
  | cons opc bs =>
    obtain ⟨-, he⟩ | ⟨-, hr⟩ := decodeOperands_cases opc.toNat bs
    · rw [decodeRequest, he]
      exact spells_error
    · have hs := hr.spells
      rwa [BitVec.ofNat_toNat, BitVec.setWidth_eq] at hs

theorem decodeRequest_illegalOpcode_iff (opc : Byte) (bs : List Byte) :
    decodeRequest (opc :: bs) = .error .illegalOpcode ↔ OutsideTheMap opc.toNat := by
  obtain ⟨ho, he⟩ | ⟨ho, hr⟩ := decodeOperands_cases opc.toNat bs
  · exact iff_of_true he ho
  · exact iff_of_false hr.mapped ho

/-! ### Frames (R123, R126, R131) -/

/-- The row of an index and an argument has the frame of that index and argument (R131). The cases are the indices in
rising order, the last one those outside the command set. -/
theorem instrOfFrame_some {idx arg : Nat} {i : Instr} (h : instrOfFrame idx arg = some i) :
    i.wellFormed = true ∧ portOf i = .frame ∧ encode i = frameBytes (BitVec.ofNat 6 idx) (BitVec.ofNat 32 arg) := by
  unfold instrOfFrame at h
  split at h
  -- commands of any argument
  case h_8 | h_9 | h_10 | h_11 | h_12 | h_13 | h_14 =>
    obtain rfl := Option.some.inj h
    exact ⟨rfl, rfl, rfl⟩
  case h_19 => cases h
  -- ACMD41, which has two arguments
  case h_16 =>
    split at h
    case isTrue ha =>
      obtain ⟨rfl, rfl⟩ := And.intro ha (Option.some.inj h)
      exact ⟨rfl, rfl, rfl⟩
    case isFalse =>
      obtain ⟨rfl, h⟩ := Option.ite_none_right_eq_some.1 h
      cases h
      exact ⟨rfl, rfl, rfl⟩
  -- commands of one argument
  all_goals
    obtain ⟨rfl, h⟩ := Option.ite_none_right_eq_some.1 h
    cases h
    exact ⟨rfl, rfl, rfl⟩

/-- A byte with the framing bits is the first byte of its index's frame (R123). -/
theorem frameHead_of_framing (b : Byte) : b.extractLsb' 6 2 = 0b01#2 → frameHead (b.extractLsb' 0 6) = b := by
  revert b
  decide

/-- A byte with the stop bit is its CRC field and that bit (R123). -/
theorem crcByte_of_stop (b : Byte) : b.getLsbD 0 = true → (b.extractLsb' 1 7 ++ 1#1 : Byte) = b := by
  revert b
  decide

/-- Six bytes with the framing, the stop bit and the CRC of a frame are one (R123, R126). -/
theorem frameBytes_of_fields {b0 b1 b2 b3 b4 b5 : Byte} (hf : b0.extractLsb' 6 2 = 0b01#2) (hs : b5.getLsbD 0 = true)
    (hc : b5.extractLsb' 1 7 = crc7 [b0, b1, b2, b3, b4]) :
    frameBytes (b0.extractLsb' 0 6) (be32 b1 b2 b3 b4) = [b0, b1, b2, b3, b4, b5] := by
  rw [frameBytes, frameCrcByte, frameHead_of_framing b0 hf, bytesBE32_be32, ← hc, crcByte_of_stop b5 hs]
  rfl

theorem decodeFrame_spells (bs : List Byte) : Spells .frame bs (decodeFrame bs) := by
  unfold decodeFrame
  split
  case h_2 => exact spells_error
  case h_1 b0 b1 b2 b3 b4 b5 rest =>
    refine spells_ite (fun _ => spells_error) fun hframing => spells_ite (fun _ => spells_error) fun hcrc => ?_
    rw [not_or, not_not, Bool.not_eq_false] at hframing
    split
    case h_2 => exact spells_error
    case h_1 i hi =>
      obtain ⟨hw, hp, he⟩ := instrOfFrame_some hi
      rw [BitVec.ofNat_toNat, BitVec.setWidth_eq, BitVec.ofNat_toNat, BitVec.setWidth_eq,
        frameBytes_of_fields hframing.1 hframing.2 (not_not.1 hcrc)] at he
      exact spells_ok hw hp (by rw [he]; rfl)

/-! ### Responses and tokens (R127 to R129, R134, R136) -/

/-- A status byte is its seven bits behind a 0 (R127). -/
theorem statusByte_of_bit (b : Byte) : ¬ b.getLsbD 7 = true → b = 0#1 ++ b.extractLsb' 0 7 := by
  revert b
  decide

/-- The 32 bits behind a status are the bits not examined and the echo (R129). -/
theorem echo_append (v : BitVec 32) : (v.extractLsb' 12 20 ++ v.extractLsb' 0 12 : BitVec 32) = v :=
  BitVec.extractLsb'_append_extractLsb' (w := 20) (len := 12)

theorem decodeResponse_spells (k : RespKind) (bs : List Byte) : Spells (.response k) bs (decodeResponse k bs) := by
  unfold decodeResponse
  split
  case h_1 | h_5 => exact spells_error
  case h_2 b rest =>
    exact spells_ite (fun _ => spells_error) fun hb =>
      spells_ok rfl rfl (by rw [encode, ← statusByte_of_bit b hb]; rfl)
  case h_3 b b1 b2 b3 b4 rest =>
    exact spells_ite (fun _ => spells_error) fun hb =>
      spells_ok rfl rfl (by rw [encode, ← statusByte_of_bit b hb, bytesBE32_be32]; rfl)
  case h_4 b b1 b2 b3 b4 rest =>
    exact spells_ite (fun _ => spells_error) fun hb =>
      spells_ok rfl rfl (by rw [encode, ← statusByte_of_bit b hb, echo_append, bytesBE32_be32]; rfl)

theorem decodeToken_spells (bs : List Byte) : Spells .token bs (decodeToken bs) := by
  cases bs with
  | nil => exact spells_error
  | cons b rest =>
    exact spells_ite (fun h => spells_ok rfl rfl (h ▸ rfl)) fun _ =>
      spells_ite (fun h => spells_ok rfl rfl (h ▸ rfl)) fun _ =>
      spells_ite (fun h => spells_ok rfl rfl (h ▸ rfl)) fun _ =>
      spells_ite (fun h => spells_ok rfl rfl (h ▸ rfl)) fun _ => spells_error

/-- A byte is its two nibbles (R136). -/
theorem nibbles_append (b : Byte) : (b.extractLsb' 4 4 ++ b.extractLsb' 0 4 : Byte) = b := by
  revert b
  decide

theorem decodeDataResponse_spells (bs : List Byte) : Spells .dataResponse bs (decodeDataResponse bs) := by
  cases bs with
  | nil => exact spells_error
  | cons b rest =>
    refine spells_ite (fun h => spells_ok rfl rfl ?_) fun h => spells_ok (by simpa [Instr.wellFormed] using h) rfl ?_
    · rw [encode, ← h, nibbles_append]
      rfl
    · rw [encode, nibbles_append]
      rfl

/-- Settles O2: a port's bytes are taken apart as its decoder reads them. -/
theorem decodedBytesAreTheEncoding : Obligations.DecodedBytesAreTheEncoding := by
  unfold Obligations.DecodedBytesAreTheEncoding
  intro port bs rest i
  cases port with
  | request => exact decodeRequest_spells bs i rest
  | frame => exact decodeFrame_spells bs i rest
  | response k => exact decodeResponse_spells k bs i rest
  | token => exact decodeToken_spells bs i rest
  | dataResponse => exact decodeDataResponse_spells bs i rest

/-- Settles O6: each word is the encoding of its instruction, which the decoder reads back. -/
theorem wordsDecodeAsTheSpecSays : Obligations.WordsDecodeAsTheSpecSays := by
  unfold Obligations.WordsDecodeAsTheSpecSays
  have hframe : encode (.cmd17ReadSingleBlock 0xFFFFFE00) = [0x51, 0xFF, 0xFF, 0xFE, 0x00, 0x9B] := by
    simp [encode, frameBytes, frameCrcByte, frameHead, bytesBE32, crc7, crc7Byte, crc7Bit]
  exact ⟨decodeAt_encode (.setCommand 8 0x48) [] rfl, decodeAt_encode (.sdRead 1 5 2 0x1000) [] rfl,
    decodeAt_encode (.blockCount 0) [] rfl, hframe ▸ decodeAt_encode (.cmd17ReadSingleBlock 0xFFFFFE00) [] rfl,
    decodeAt_encode (.r3StatusOcr 0 0xC0FF8000) [] rfl, decodeAt_encode .multiBlockWriteStartToken [] rfl,
    decodeAt_encode (.dataResponseAccepted 0xE) [] rfl⟩

/-- The mask of R136 is the low nibble. -/
theorem mask_iff_lowNibble (b : Byte) : b &&& 0x0F#8 = 0x05#8 ↔ b.extractLsb' 0 4 = 5#4 := by
  revert b
  decide

/-- Settles O7: the decoder branches on the low nibble, which is the mask of R136. -/
theorem dataResponseIsItsLowNibble : Obligations.DataResponseIsItsLowNibble := by
  unfold Obligations.DataResponseIsItsLowNibble
  intro b rest
  rw [ne_eq, mask_iff_lowNibble b]
  by_cases h : b.extractLsb' 0 4 = 5#4
  · simp [decodeDataResponse, h]
  · simp [decodeDataResponse, h]

end Sys2Proof

namespace Sys2Proof.Machine

open Sys2Proof

/-- Settles O3: the OPC map of `decodeOperands`, and the step of a client whose call does not decode. -/
theorem unmappedOpcodesAreRefused : Obligations.UnmappedOpcodesAreRefused := by
  unfold Obligations.UnmappedOpcodesAreRefused
  refine ⟨decodeRequest_illegalOpcode_iff, fun s s' c opc bs ht hc hd => ?_⟩
  have hcall : decodeCall ⟨.request, opc :: bs⟩ = .error .illegalOpcode := by simp [decodeCall, decodeAt, hd]
  rw [step_client ht]
  simp only [clientStep, hc, hcall]

end Sys2Proof.Machine

/-! PROOFS. The bits of a frame on the wire and its CRC7 (O4, O5, O37). -/

namespace Sys2Proof.Machine

open Sys2Proof

/-! ### Bits, most significant first (R82) -/

theorem wireBits_cons (b : Byte) (bs : List Byte) : wireBits (b :: bs) = fieldBits 8 b .msbFirst ++ wireBits bs := rfl

/-- The bits of two fields in one word are those of the one and then those of the other. -/
theorem fieldBits_append {m n : Nat} (x : BitVec m) (y : BitVec n) :
    fieldBits (m + n) (x ++ y) .msbFirst = fieldBits m x .msbFirst ++ fieldBits n y .msbFirst := by
  simp only [fieldBits, List.range_add, List.map_append, List.map_map]
  congr 1
  · refine List.map_congr_left fun i hi => ?_
    have hi := List.mem_range.1 hi
    rw [BitVec.getLsbD_append, if_neg (by omega)]
    congr 1
    omega
  · refine List.map_congr_left fun i hi => ?_
    have hi := List.mem_range.1 hi
    rw [Function.comp_apply, BitVec.getLsbD_append, if_pos (by omega)]
    congr 1
    omega

/-- The four bytes of a word have the word's bits (R88). -/
theorem wireBits_bytesBE32 (v : BitVec 32) : wireBits (bytesBE32 v) = fieldBits 32 v .msbFirst := by
  have hv := congrArg (fieldBits 32 · .msbFirst) (be32_bytes v)
  simp only [be32, fieldBits_append (m := 24) (n := 8), fieldBits_append (m := 16) (n := 8),
    fieldBits_append (m := 8) (n := 8), List.append_assoc] at hv
  exact hv

/-- A frame's bits: framing and index, argument, CRC and stop bit (R123). -/
theorem wireBits_frameBytes (idx : BitVec 6) (arg : BitVec 32) :
    wireBits (frameBytes idx arg) = fieldBits 8 (frameHead idx) .msbFirst ++ fieldBits 32 arg .msbFirst ++
      fieldBits 8 (frameCrcByte idx arg) .msbFirst := by
  rw [← wireBits_bytesBE32]
  simp [frameBytes, bytesBE32, wireBits, byteBits]

/-- The 48-bit value sends the bits of its four parts (R123). -/
theorem fieldBits_frameValue (idx : BitVec 6) (arg : BitVec 32) :
    fieldBits 48 (frameValue idx arg) .msbFirst = wireBits (frameBytes idx arg) := by
  rw [wireBits_frameBytes, frameCrcByte, frameValue, fieldBits_append (m := 47) (n := 1),
    fieldBits_append (m := 40) (n := 7), fieldBits_append (m := 8) (n := 32), fieldBits_append (m := 7) (n := 1),
    List.append_assoc]
  rfl

/-! ### The frame as a word and as bytes (O4) -/

theorem frameHead_eq (idx : BitVec 6) : frameHead idx = 0x40#8 ||| idx.setWidth 8 := by
  revert idx
  decide

/-- The last byte of a frame is `(crc7 << 1) | 1` (R123). -/
theorem crcByte_eq (c : BitVec 7) : (c ++ 1#1 : Byte) = c.setWidth 8 <<< 1 ||| 1#8 := by
  revert c
  decide

theorem frameValue_crc (idx : BitVec 6) (arg : BitVec 32) :
    (frameValue idx arg).extractLsb' 1 7 = crc7 (frameHead idx :: bytesBE32 arg) := by
  rw [frameValue, BitVec.extractLsb'_append_eq_of_le (by decide), BitVec.extractLsb'_append_eq_of_add_le (by decide),
    BitVec.extractLsb'_eq_self]

/-- Settles O4: each field is where its part of `frameValue` stands, and the bytes have the value's bits. -/
theorem frameHasTheSdLayout : Obligations.FrameHasTheSdLayout := by
  unfold Obligations.FrameHasTheSdLayout
  intro idx arg
  refine ⟨?framing, ?index, ?argument, frameValue_crc idx arg, BitVec.extractLsb'_append_eq_right,
    (fieldBits_frameValue idx arg).symm, ?bytes⟩
  case framing =>
    rw [frameValue, BitVec.extractLsb'_append_eq_of_le (by decide), BitVec.extractLsb'_append_eq_of_le (by decide),
      BitVec.extractLsb'_append_eq_of_le (by decide)]
    exact (frameHead_fields idx).1
  case index =>
    rw [frameValue, BitVec.extractLsb'_append_eq_of_le (by decide), BitVec.extractLsb'_append_eq_of_le (by decide),
      BitVec.extractLsb'_append_eq_of_le (by decide)]
    exact (frameHead_fields idx).2
  case argument =>
    rw [frameValue, BitVec.extractLsb'_append_eq_of_le (by decide), BitVec.extractLsb'_append_eq_of_le (by decide),
      BitVec.extractLsb'_append_eq_of_add_le (by decide), BitVec.extractLsb'_eq_self]
  case bytes =>
    rw [frameValue_crc, ← crcByte_eq, ← frameHead_eq]
    rfl

/-! ### Long division by `x^7 + x^3 + 1` (O5) -/

/-- A 0 at the end of what is added adds nothing. -/
theorem addFront_append_false (gs bs : List Bool) : addFront (gs ++ [false]) bs = addFront gs bs := by
  induction gs generalizing bs with
  | nil => cases bs <;> simp [addFront]
  | cons g gs ih => cases bs <;> simp [addFront, ih]

theorem addFront_addFront (gs hs bs : List Bool) (h : gs.length ≤ hs.length) :
    addFront gs (addFront hs bs) = addFront (addFront gs hs) bs := by
  induction gs generalizing hs bs with
  | nil => cases hs <;> rfl
  | cons g gs ih =>
    cases hs with
    | nil => simp at h
    | cons k hs =>
      cases bs with
      | nil => rfl
      | cons b bs =>
        simp only [List.length_cons, Nat.add_le_add_iff_right] at h
        simp [addFront, ih hs bs h]

theorem addFront_zeros_right {n : Nat} {bs : List Bool} (h : bs.length = n) :
    addFront bs (List.replicate n false) = bs := by
  induction bs generalizing n with
  | nil => exact h ▸ rfl
  | cons b bs ih =>
    obtain rfl := h
    simp [List.replicate_succ, addFront, ih rfl]

theorem addFront_zeros_left (n : Nat) (bs : List Bool) : addFront (List.replicate n false) bs = bs := by
  induction n generalizing bs with
  | zero => rfl
  | succ n ih => cases bs <;> simp [List.replicate_succ, addFront, ih]

/-- The generator behind its leading 1 (R126). -/
def generatorTail : List Bool := [false, false, false, true, false, false, true]

/-- One bit into the CRC register is one step of the division: the register's top bit and the bit decide whether the
generator is added to what follows. -/
theorem crc7Bit_bits (c : BitVec 7) (b : Bool) :
    ∃ rest, fieldBits 7 c .msbFirst = c.getLsbD 6 :: rest ∧ fieldBits 7 (crc7Bit c b) .msbFirst =
      if c.getLsbD 6 ^^ b then addFront generatorTail (rest ++ [false]) else rest ++ [false] := by
  refine ⟨(fieldBits 7 c .msbFirst).tail, rfl, ?_⟩
  revert c b
  decide

/-- Dividing the bits with the register added to their front leaves the register after those bits. -/
theorem divide_register (bits : List Bool) (c : BitVec 7) :
    divide bits.length (addFront (fieldBits 7 c .msbFirst) (bits ++ List.replicate 7 false)) =
      fieldBits 7 (bits.foldl crc7Bit c) .msbFirst := by
  induction bits generalizing c with
  | nil => exact addFront_zeros_right (fieldBits_length 7 c .msbFirst)
  | cons b bits ih =>
    obtain ⟨rest, hc, hnext⟩ := crc7Bit_bits c b
    rw [List.foldl_cons, ← ih, hnext, hc, List.cons_append, addFront, List.length_cons, divide]
    congr 1
    split
    case isTrue =>
      have hrest : rest.length + 1 = 7 := by rw [← List.length_cons, ← hc, fieldBits_length]
      rw [← addFront_addFront _ _ _ (by simp [generatorTail, hrest]), addFront_append_false]
      rfl
    case isFalse => rw [addFront_append_false]

theorem crc7_eq_foldl (bs : List Byte) : crc7 bs = (wireBits bs).foldl crc7Bit 0#7 := by
  rw [crc7, wireBits, List.foldl_flatMap]
  rfl

/-- Settles O5: the CRC register is the running remainder of the division. -/
theorem crcIsTheRemainder : Obligations.CrcIsTheRemainder := by
  unfold Obligations.CrcIsTheRemainder
  refine ⟨fun bs => ?_, ?_, ?_⟩
  · have hlen : (wireBits bs).length = 8 * bs.length := by
      simp [wireBits, List.length_flatMap, Nat.mul_comm]
    have hzero : fieldBits 7 0#7 .msbFirst = List.replicate 7 false := rfl
    rw [crc7_eq_foldl, ← divide_register, hzero, addFront_zeros_left, hlen]
  · simp [frameCrcByte, frameHead, bytesBE32, crc7, crc7Byte, crc7Bit]
  · simp [frameCrcByte, frameHead, bytesBE32, crc7, crc7Byte, crc7Bit]

/-! ### The frame transaction (O37) -/

/-- The low bits of a byte widened to a command value are the byte's (R82). -/
theorem fieldBits_setWidth {m n len : Nat} (v : BitVec m) (h : len ≤ n) :
    fieldBits len (v.setWidth n) .msbFirst = fieldBits len v .msbFirst := by
  refine List.map_congr_left fun i hi => ?_
  have hi := List.mem_range.1 hi
  rw [BitVec.getLsbD_setWidth, decide_eq_true (by omega), Bool.true_and]

/-- The engine's fields once a command's frame is in them (R124). -/
def Engine.framed (e : Engine) (c : Command) : Engine :=
  { e.cleared with
    cmdEn := some true
    cmdLen := some 8
    cmdVal := some ((frameHead c.idx).setWidth 16)
    addrEn := some true
    addrLen := some 32
    addrVal := some c.arg
    outEn := some true
    outLen := some 8
    outBuf := outBufOf [frameCrcByte c.idx c.arg] }

theorem outPhase_framed (e : Engine) (c : Command) :
    outPhase (e.framed c) false .msbFirst = some (fieldBits 8 (frameCrcByte c.idx c.arg) .msbFirst) := by
  have hstream : outStream (outBufOf [frameCrcByte c.idx c.arg]) false (ceil8 8) = some [frameCrcByte c.idx c.arg] :=
    outStream_eq_some_iff.2 ⟨rfl, fun j hj => by
      obtain rfl : j = 0 := Nat.lt_one_iff.1 hj
      rfl⟩
  exact outPhase_iff.2 (.inr ⟨rfl, 8, _, rfl, hstream, rfl⟩)

/-- The transaction of those fields is the frame and nothing else (R82, R124). -/
theorem Engine.framed_phases (e : Engine) (c : Command) :
    (e.framed c).phases .msbFirst = some (wireBits (frameBytes c.idx c.arg), 0, 0) := by
  refine Engine.phases_iff.2 ⟨false, false, _, _, _, rfl, rfl, rfl, rfl, rfl, rfl, outPhase_framed e c, ?_⟩
  rw [fieldBits_setWidth _ (by decide), wireBits_frameBytes]

/-- Settles O37: the operations of the field builder leave the frame in the fields, and `execute` snapshots it. -/
theorem frameIsOnTheWire : Obligations.FrameIsOnTheWire := by
  unfold Obligations.FrameIsOnTheWire
  intro s c cmd cm ho hb hbo hcm
  have hhead : ((frameHead cmd.idx).setWidth 16).toNat < 2 ^ 8 := by
    rw [BitVec.toNat_setWidth_of_le (by decide)]
    exact (frameHead cmd.idx).isLt
  have hrun : runOps c ((frameOps cmd).take 6) s = some ((s.withEngine (s.engine.framed cmd)).started
      (snapOf (wireBits (frameBytes cmd.idx cmd.arg)) 0 0 false .msbFirst cm)) :=
    runOps_cons.2 ⟨_, _, resetOp_done.2 ⟨ho, hb, rfl, rfl⟩,
      runOps_cons.2 ⟨_, _, setCommandOp_done.2 ⟨ho, hb, ⟨by decide, by decide, hhead⟩, rfl, rfl⟩,
      runOps_cons.2 ⟨_, _, setAddressOp_done.2 ⟨ho, hb, ⟨by decide, by decide, cmd.arg.isLt⟩, rfl, rfl⟩,
      runOps_cons.2 ⟨_, _, setOutputOp_done.2 ⟨ho, hb, ⟨by decide, by decide, rfl⟩, rfl, rfl⟩,
      runOps_cons.2 ⟨_, _, configureExecOp_done.2 ⟨ho, hb, ⟨by decide, by decide⟩, rfl, rfl⟩,
      runOps_cons.2 ⟨_, _, executeOp_done.2 ⟨ho, hb, .msbFirst, cm, _, 0, 0, hbo, hcm,
        s.engine.framed_phases cmd, rfl, rfl, rfl⟩, rfl⟩⟩⟩⟩⟩⟩
  refine ⟨_, _, hrun, rfl, rfl, rfl, List.append_nil _, ?_, rfl, rfl⟩
  simp [snapOf, wireBits_frameBytes, fieldBits_length]

end Sys2Proof.Machine

/-! PROOFS. A client that does not own the bus (O16). -/

namespace Sys2Proof.Machine

open Sys2Proof

/-- What a bus that is owned keeps in the step of a client that does not own it (R201, R205). -/
structure BusKept (s t : State) : Prop where
  engine : t.engine = s.engine
  snap : t.snap = s.snap
  xfer : t.xferInLen = s.xferInLen
  latch : t.latch = s.latch
  lines : t.lines = s.lines
  owner : t.lock.owner = s.lock.owner
  ready : t.lock.ready = s.lock.ready

theorem Quiet.busKept {s t : State} (h : Quiet s t) : BusKept s t where
  engine := h.engine
  snap := h.snap
  xfer := h.xfer
  latch := h.latch
  lines := h.lines
  owner := congrArg Lock.owner h.lock
  ready := congrArg Lock.ready h.lock

/-- An engine operation completes only where its client owns the bus, or takes a free one. -/
theorem Drives.owns_or_free {c : Nat} {op : EngineOp} {s u : State} (h : Drives c s op u) :
    s.lock.owner = some c ∨ s.lock.owner = none := by
  cases h with
  | grant _ _ _ free => exact .inr free
  | free owns | clock _ _ owns | chipSelect _ _ owns | field _ _ owns | start _ _ owns | look _ _ owns =>
    exact .inl (owns_iff.1 owns).2

theorem busKept_blocked {c : Nat} {op : EngineOp} {s u : State} (h : engineOp c op s = .blocked u) : BusKept s u := by
  obtain ⟨dev, rfl⟩ | ⟨-, rfl⟩ := engineOp_blocked h
  · obtain ⟨-, -, -, -, rfl⟩ := acquireOp_blocked.1 h
    exact ⟨rfl, rfl, rfl, rfl, rfl, rfl, rfl⟩
  · exact ⟨rfl, rfl, rfl, rfl, rfl, rfl, rfl⟩

/-- Of the effects a step of a client can have, only a completed engine operation and `bus_init` reach the bus. -/
theorem Effect.busKept {init st : Bool} {s t : State} {o : Nat} (h : Effect init st s t) (hr : s.lock.ready = true)
    (ho : s.lock.owner = some o) (hne : s.cur ≠ o) : BusKept s t := by
  cases h with
  | quiet h => exact h.busKept
  | engine op u b run h =>
    obtain hown | hfree := (drives_of_done run).owns_or_free
    · exact absurd (Option.some.inj (hown.symm.trans ho)) hne
    · exact absurd (hfree.symm.trans ho) nofun
  | blocked op u run h =>
    have hu := busKept_blocked run
    have ht := h.busKept
    exact ⟨ht.engine.trans hu.engine, ht.snap.trans hu.snap, ht.xfer.trans hu.xfer, ht.latch.trans hu.latch,
      ht.lines.trans hu.lines, ht.owner.trans hu.owner, ht.ready.trans hu.ready⟩
  | lock u b run h => exact absurd ((busInitOp_done.1 run).1.symm.trans hr) nofun
  | store _ base bs u run h =>
    obtain rfl := State.writeBuffer_some run
    exact { h.busKept with }
  | session _ d se h => exact { h.busKept with }
  | flag _ d h => exact { h.busKept with }
  | clear _ d h => exact { h.busKept with }

/-- Settles O16: a step of a client is one of its effects, and none of them reaches another's bus. -/
theorem onlyTheOwnerDrivesTheBus : Obligations.OnlyTheOwnerDrivesTheBus := by
  unfold Obligations.OnlyTheOwnerDrivesTheBus
  intro s t o hr ho hne ht
  obtain ⟨init, heffect⟩ := ht.effect
  have h := heffect.busKept hr ho hne
  exact ⟨h.engine, h.snap, h.xfer, h.latch, h.lines, h.owner.trans ho, h.ready.trans hr⟩

end Sys2Proof.Machine

/-! PROOFS. What a primitive does with what it reads: the rows of the card's answers, and every byte (O40 to O43). -/

namespace Sys2Proof.Machine

open Sys2Proof

section

variable {s : State} {x : Ctx} {ph : Phase} {f : Bool} {n t0 T : Nat} {b : Byte} {c : Command}

/-! ### The rules of the primitives (R253, R260, R262, R264, R270) -/

/-- A byte that does not end a deadline wait (R253, R270). -/
theorem pollAgain_of (hm : x.micro = []) (ht0 : x.pollT0 = some t0) (hT : x.limit = some T) :
    pollAgain s x = .next (s.now.2.withCtx
      (if s.now.1 - t0 ≥ T then { x with phase := .done .timeout } else { x with micro := xferIn 1 })) := by
  simp only [pollAgain, ht0, hT, State.goOn, State.deadline_fst, State.deadline_snd, decide_eq_true_eq,
    Ctx.finish_of_micro hm]

theorem goOn_finish (hm : x.micro = []) (r : PrimResult) :
    s.goOn (x.finish r) = .next (s.withCtx { x with phase := .done r }) := by
  rw [Ctx.finish_of_micro hm]
  rfl

/-- 0xFF ends a not-busy wait; a command goes on with its frame (R253, R260). -/
theorem notBusy_of (hm : x.micro = []) (hc : f = true → x.cmd = some c) :
    notBusy s x f = .next (s.withCtx
      (if f then { x with phase := .frame, micro := frameOps c } else { x with phase := .done .ok })) := by
  cases f with
  | false => exact goOn_finish hm .ok
  | true =>
    simp only [notBusy, hc rfl]
    rfl

theorem windowMiss_of (hm : x.micro = []) : windowMiss s x n = .next (s.withCtx
    (if 8 ≤ n then { x with phase := .done .timeout }
      else { x with phase := .window (n + 1), micro := xferIn 1 })) := by
  rw [windowMiss, Ctx.finish_of_micro hm]
  rfl

theorem takeStatus_of (hm : x.micro = []) (hc : x.cmd = some c) (r1 : Byte) :
    takeStatus s x r1 = .next (s.withCtx
      (if c.kind = .r1 then { x with r1 := some r1, ext := none, phase := .done (.reply r1) }
        else { x with r1 := some r1, ext := none, phase := .extended, micro := xferIn 4 })) := by
  simp only [takeStatus, hc]
  cases c.kind with
  | r1 => exact goOn_finish (x := { x with r1 := some r1, ext := none, cmd := some c }) hm _
  | r3 | r7 => rfl

theorem takeExtended_of (hm : x.micro = []) (r1 : Byte) (ext : BitVec 32) :
    takeExtended s x r1 ext = .next (s.withCtx
      { x with r1 := some r1, ext := some ext, phase := .done (.reply r1) }) :=
  goOn_finish (x := { x with r1 := some r1, ext := some ext }) hm _

/-! ### The rows, where a primitive reads (R127 to R129, R134, R136) -/

/-- Where a primitive reads, an answer's row gets the context. -/
theorem receiving_of (ha : s.awaits x ph) (k : Ctx → Outcome) : receiving s k = k x := by
  obtain ⟨hx, hm, -⟩ := ha
  simp only [receiving, hx, hm, if_true]

theorem filler_pollBusy (ha : s.awaits x (.pollBusy f)) : execFillerNotBusy s = notBusy s x f := by
  simp only [execFillerNotBusy, receiving_of ha, ha.2.2]

theorem filler_pollToken (ha : s.awaits x .pollToken) : execFillerNotBusy s = pollAgain s x := by
  simp only [execFillerNotBusy, receiving_of ha, ha.2.2, tokenFiller]

theorem filler_window (ha : s.awaits x (.window n)) : execFillerNotBusy s = windowMiss s x n := by
  simp only [execFillerNotBusy, receiving_of ha, ha.2.2]

theorem filler_dataResponse (ha : s.awaits x .dataResponse) : execFillerNotBusy s = s.goOn (x.finish .rejected) := by
  simp only [execFillerNotBusy, receiving_of ha, ha.2.2]

theorem r1Status_window (ha : s.awaits x (.window n)) (st : BitVec 7) :
    execR1Status st s = takeStatus s x (0#1 ++ st) := by
  simp only [execR1Status, receiving_of ha, ha.2.2]

theorem r3StatusOcr_extended (ha : s.awaits x .extended) (hc : x.cmd = some c) (hk : c.kind = .r3) (st : BitVec 7)
    (o : BitVec 32) : execR3StatusOcr st o s = takeExtended s x (0#1 ++ st) o := by
  simp [execR3StatusOcr, receiving_of ha, ha.2.2, Ctx.answers, hc, hk]

theorem r7StatusEcho_extended (ha : s.awaits x .extended) (hc : x.cmd = some c) (hk : c.kind = .r7) (st : BitVec 7)
    (hi : BitVec 20) (echo : BitVec 12) :
    execR7StatusEcho st hi echo s = takeExtended s x (0#1 ++ st) (hi ++ echo) := by
  simp [execR7StatusEcho, receiving_of ha, ha.2.2, Ctx.answers, hc, hk]

theorem accepted_dataResponse (ha : s.awaits x .dataResponse) (hi : BitVec 4) :
    execDataResponseAccepted hi s = .next (s.withCtx { x with phase := .done .ok }) := by
  simp only [execDataResponseAccepted, receiving_of ha, ha.2.2, goOn_finish ha.2.1]

theorem rejected_dataResponse (ha : s.awaits x .dataResponse) (hi n : BitVec 4) :
    execDataResponseRejected hi n s = .next (s.withCtx { x with phase := .done .rejected }) := by
  simp only [execDataResponseRejected, receiving_of ha, ha.2.2, goOn_finish ha.2.1]

/-- Where a primitive reads, a token that is also sent is received (R134). -/
theorem tokenRow_receives (ha : s.awaits x ph) (hr : ph ≠ .ready) (hg : ph ≠ .group) (tok : Byte)
    (k : State → Ctx → Outcome) : tokenRow tok k s = receiveToken s x (k s x) := by
  obtain ⟨hx, hm, rfl⟩ := ha
  simp only [tokenRow, hx, hm]

theorem tokenRow_pollBusy (ha : s.awaits x (.pollBusy f)) (tok : Byte) (k : State → Ctx → Outcome) :
    tokenRow tok k s = pollAgain s x := by
  simp only [tokenRow_receives ha nofun nofun, receiveToken, ha.2.2, busyByte]

theorem tokenRow_pollToken (ha : s.awaits x .pollToken) (tok : Byte) (k : State → Ctx → Outcome) :
    tokenRow tok k s = k s x := by
  simp only [tokenRow_receives ha nofun nofun, receiveToken, ha.2.2]

/-! ### Every byte of a poll, of the window, of an extended and of a data response -/

theorem receivePoll_of (htmp : x.tmp = [b]) : receivePoll s x =
    if b = 0xFF#8 then execFillerNotBusy s
    else if b = 0xFE#8 then execDataStartToken s
    else if b = 0xFC#8 then execMultiBlockWriteStartToken s
    else if b = 0xFD#8 then execMultiBlockStopToken s
    else strayByte s x := by
  simp only [receivePoll, htmp, decodeToken]
  by_cases hff : b = 0xFF#8
  · simp only [if_pos hff]
  by_cases hfe : b = 0xFE#8
  · simp only [if_neg hff, if_pos hfe]
  by_cases hfc : b = 0xFC#8
  · simp only [if_neg hff, if_neg hfe, if_pos hfc]
  by_cases hfd : b = 0xFD#8
  · simp only [if_neg hff, if_neg hfe, if_neg hfc, if_pos hfd]
  · simp only [if_neg hff, if_neg hfe, if_neg hfc, if_neg hfd]

/-- A byte of the not-busy wait: 0xFF ends it, and every other byte is busy (R253). -/
theorem receivePoll_pollBusy (ha : s.awaits x (.pollBusy f)) (htmp : x.tmp = [b]) :
    receivePoll s x = if b = 0xFF#8 then notBusy s x f else pollAgain s x := by
  simp only [receivePoll_of htmp, filler_pollBusy ha, execDataStartToken, execMultiBlockWriteStartToken,
    execMultiBlockStopToken, tokenRow_pollBusy ha, strayByte, ha.2.2, busyByte, ite_self]

/-- A byte of the token wait: 0xFE ends it, 0xFF does not, and every other byte is an error (R270, R271). -/
theorem receivePoll_pollToken (ha : s.awaits x .pollToken) (htmp : x.tmp = [b]) :
    receivePoll s x =
      if b = 0xFE#8 then tokenFound s x else if b = 0xFF#8 then pollAgain s x else tokenError s x := by
  simp only [receivePoll_of htmp, filler_pollToken ha, execDataStartToken, execMultiBlockWriteStartToken,
    execMultiBlockStopToken, tokenRow_pollToken ha, strayByte, ha.2.2, ite_self]
  by_cases h : b = 0xFF#8
  · simp [h]
  · simp [h]

/-- A byte of the response window: a status, or a gap (R262). -/
theorem receiveWindow_of (ha : s.awaits x (.window n)) (htmp : x.tmp = [b]) :
    receiveWindow s x n = if b.getLsbD 7 = false then takeStatus s x b else windowMiss s x n := by
  simp only [receiveWindow, htmp, decodeResponse]
  by_cases h : b.getLsbD 7 = true
  · simp [h]
  · rw [if_neg h, if_pos (Bool.not_eq_true _ ▸ h)]
    exact (r1Status_window ha _).trans (by rw [← statusByte_of_bit b h])

/-- The four bytes behind a status byte (R264): the row of the command's response kind takes both. -/
theorem receiveExtended_of {r1 b0 b1 b2 b3 : Byte} (ha : s.awaits x .extended) (htmp : x.tmp = [b0, b1, b2, b3])
    (hr1 : x.r1 = some r1) (hst : r1.getLsbD 7 = false) (hc : x.cmd = some c) (hk : c.kind ≠ .r1) :
    receiveExtended s x = takeExtended s x r1 (be32 b0 b1 b2 b3) := by
  have hst' : ¬ r1.getLsbD 7 = true := Bool.not_eq_true _ ▸ hst
  have hbyte := statusByte_of_bit r1 hst'
  simp only [receiveExtended, hr1, hc, htmp]
  cases hkind : c.kind with
  | r1 => exact absurd hkind hk
  | r3 =>
    simp only [decodeResponse, if_neg hst']
    exact (r3StatusOcr_extended ha hc hkind _ _).trans (by rw [← hbyte])
  | r7 =>
    simp only [decodeResponse, if_neg hst']
    exact (r7StatusEcho_extended ha hc hkind _ _ _).trans (by rw [← hbyte, echo_append])

/-- A data-response byte is accepted at a low nibble 0b0101 and rejected at any other (R136, R272). -/
theorem receiveDataResponse_of (htmp : x.tmp = [b]) : receiveDataResponse s x =
    if b &&& 0x0F#8 = 0x05#8 then execDataResponseAccepted (b.extractLsb' 4 4) s
    else execDataResponseRejected (b.extractLsb' 4 4) (b.extractLsb' 0 4) s := by
  simp only [receiveDataResponse, htmp, decodeDataResponse, mask_iff_lowNibble b]
  by_cases h : b.extractLsb' 0 4 = 5#4
  · simp only [if_pos h]
  · simp only [if_neg h]

/-! ### The primitive of each phase that reads -/

theorem primitiveStep_pollBusy (hp : x.phase = .pollBusy f) : primitiveStep s x = receivePoll s x := by
  simp only [primitiveStep, hp]

theorem primitiveStep_pollToken (hp : x.phase = .pollToken) : primitiveStep s x = receivePoll s x := by
  simp only [primitiveStep, hp]

theorem primitiveStep_frame (hp : x.phase = .frame) :
    primitiveStep s x = .next (s.withCtx { x with phase := .window 1, micro := xferIn 1 }) := by
  simp only [primitiveStep, hp, State.goOn]

theorem primitiveStep_window (hp : x.phase = .window n) : primitiveStep s x = receiveWindow s x n := by
  simp only [primitiveStep, hp]

theorem primitiveStep_extended (hp : x.phase = .extended) : primitiveStep s x = receiveExtended s x := by
  simp only [primitiveStep, hp]

theorem primitiveStep_dataResponse (hp : x.phase = .dataResponse) :
    primitiveStep s x = receiveDataResponse s x := by
  simp only [primitiveStep, hp]

end

/-- Settles O43: what each primitive's reader makes of a byte, and the rule of the primitive. -/
theorem waitsForTheCard : Obligations.WaitsForTheCard := by
  unfold Obligations.WaitsForTheCard
  refine ⟨fun s x b t0 T f c ha htmp ht0 hT hc => ?notBusy, fun s x b t0 T ha htmp ht0 hT => ?token,
    fun s x ha => primitiveStep_frame ha.2.2, fun s x b n c ha htmp hn hc => ?window,
    fun s x r1 b0 b1 b2 b3 c ha htmp hr1 hst hc hk => ?extended, fun s x b ha htmp => ?dataResponse⟩
  case notBusy =>
    rw [primitiveStep_pollBusy ha.2.2, receivePoll_pollBusy ha htmp, notBusy_of ha.2.1 hc, pollAgain_of ha.2.1 ht0 hT]
  case token =>
    rw [primitiveStep_pollToken ha.2.2, receivePoll_pollToken ha htmp, pollAgain_of ha.2.1 ht0 hT, tokenFound,
      tokenError, goOn_finish ha.2.1, goOn_finish ha.2.1]
  case window =>
    have hlast : n < 8 ↔ ¬ 8 ≤ n := Nat.not_le.symm
    rw [primitiveStep_window ha.2.2, receiveWindow_of ha htmp, takeStatus_of ha.2.1 hc, windowMiss_of ha.2.1]
    simp only [hlast, ite_not, apply_ite (fun y => Host.Outcome.next (s.withCtx y))]
  case extended =>
    rw [primitiveStep_extended ha.2.2, receiveExtended_of ha htmp hr1 hst hc hk, takeExtended_of ha.2.1, ← hr1]
    rfl
  case dataResponse =>
    rw [primitiveStep_dataResponse ha.2.2, receiveDataResponse_of htmp, accepted_dataResponse ha,
      rejected_dataResponse ha]
    split
    · rfl
    · rfl

/-- Settles O40: the row of 0xFF in each phase that reads a byte. -/
theorem fillerByteRow : Obligations.FillerByteRow := by
  unfold Obligations.FillerByteRow
  intro s x
  refine ⟨fun c ha hc => (filler_pollBusy ha).trans (notBusy_of ha.2.1 fun _ => hc),
    fun ha => (filler_pollBusy ha).trans (notBusy_of (c := appCmd) ha.2.1 nofun),
    fun t0 T ha ht0 hT => (filler_pollToken ha).trans (pollAgain_of ha.2.1 ht0 hT), fun n ha hn => ?gap,
    fun ha => (filler_window ha).trans (windowMiss_of ha.2.1),
    fun ha => (filler_dataResponse ha).trans (goOn_finish ha.2.1 _)⟩
  case gap =>
    refine (filler_window ha).trans ((windowMiss_of ha.2.1).trans ?_)
    rw [if_neg (by omega)]

/-- Settles O41: the response rows, where the window and the extended response are read. -/
theorem responseRows : Obligations.ResponseRows := by
  unfold Obligations.ResponseRows
  intro s x c st hc
  refine ⟨fun n ha hk => (r1Status_window ha st).trans ?short, fun n ha hk => (r1Status_window ha st).trans ?long,
    fun o ha hk => (r3StatusOcr_extended ha hc hk st o).trans (takeExtended_of ha.2.1 _ _),
    fun hi echo ha hk => (r7StatusEcho_extended ha hc hk st hi echo).trans (takeExtended_of ha.2.1 _ _)⟩
  case short => rw [takeStatus_of ha.2.1 hc, if_pos hk]
  case long => rw [takeStatus_of ha.2.1 hc, if_neg hk]

/-- A client that owns an idle bus passes the guard of R205. -/
theorem requireIdleBus_ready {s : State} (h : s.ready) (k : Outcome) : requireIdleBus s k = k :=
  requireIdleBus_of h.1 h.2

/-- The three rows that are also sent are one definition (R134). -/
theorem exec_sentToken {i : Instr} {tok : Byte} (h : sentToken i = some tok) (s : State) :
    exec i s = tokenRow tok (if tok = 0xFE#8 then tokenFound else tokenError) s := by
  cases i
  case dataStartToken | multiBlockWriteStartToken | multiBlockStopToken =>
    cases h
    rfl
  all_goals cases h

/-- Settles O42: `tokenRow` where a token is sent and where one is read, and the data-response rows. -/
theorem tokenAndDataResponseRows : Obligations.TokenAndDataResponseRows := by
  unfold Obligations.TokenAndDataResponseRows
  refine ⟨fun i tok s hi => ?_, fun s x ha => ⟨accepted_dataResponse ha, rejected_dataResponse ha⟩⟩
  rw [exec_sentToken hi]
  refine ⟨fun x ha => tokenRow_ready ha _ _, fun hx hs => ?sent, fun hx hs => ?refused, fun x hs => ?returns,
    fun x ha => ?read⟩
  case sent =>
    simp only [tokenRow, hx]
    exact requireIdleBus_ready hs _
  case refused =>
    simp only [tokenRow, hx]
    exact requireIdleBus_not hs
  case returns =>
    obtain ⟨⟨hx, hm, hph⟩, hpc⟩ := hs
    simp only [tokenRow, hx, hm, hph, hpc, if_true]
  case read =>
    rw [tokenRow_pollToken ha]
    split
    · exact goOn_finish ha.2.1 _
    · exact goOn_finish ha.2.1 _

end Sys2Proof.Machine

/-! PROOFS. Command rows and pseudo-operations (O39, O44). -/

namespace Sys2Proof.Machine

open Sys2Proof

section

variable {s : State} {x : Ctx} {c : Command} {p : PrimResult} {r1 : Byte}

/-! ### A command's row (R131, R132, R260, R266) -/

/-- A command begins with its not-busy wait (R260). -/
theorem startCommand_eq (s : State) (x : Ctx) (c : Command) :
    startCommand s x c = .next (s.polling { x with cmd := some c } (.pollBusy true) s.cfg.tBusy) := rfl

theorem commandRow_none (hx : s.ctx = none) (c : Command) :
    commandRow c s = requireIdleBus s (startCommand s (Ctx.start .pseudo none) c) := by
  simp only [commandRow, hx]

theorem acmdRow_none (hx : s.ctx = none) (c : Command) :
    acmdRow c s = requireIdleBus s (startCommand s (Ctx.start .pseudoAppCmd none) appCmd) := by
  simp only [acmdRow, hx]

theorem commandRow_runs (hx : s.ctx = some x) (hpc : x.pc = .pseudo) (hr : ¬ (x.phase = .ready ∧ x.micro = []))
    (c : Command) : commandRow c s = runProgram pseudoProgram s x := by
  simp only [commandRow, hx, if_neg hr, if_pos hpc]

theorem acmdRow_runs (hx : s.ctx = some x) (hpc : x.pc = .pseudo ∨ x.pc = .pseudoAppCmd)
    (hr : ¬ (x.phase = .ready ∧ x.micro = [])) (c : Command) : acmdRow c s = runProgram (pseudoAcmd c) s x := by
  simp only [acmdRow, hx, if_neg hr, if_pos hpc]

theorem not_ready_of_done (hp : x.phase = .done p) : ¬ (x.phase = .ready ∧ x.micro = []) := by
  simp [hp]

/-! ### How a pseudo-operation ends (R161, R266) -/

theorem pseudoAcmd_pseudo (hpc : x.pc = .pseudo) : pseudoAcmd c s x (some p) = pseudoEnd s x p := by
  simp [pseudoAcmd, acmd, hpc]

/-- A status of CMD55 up to 1 leads to the command's own frame, and any other is IOError (R266). -/
theorem pseudoAcmd_appReply (hpc : x.pc = .pseudoAppCmd) : pseudoAcmd c s x (some (.reply r1)) =
    if r1.toNat ≤ 1 then .next (s.withCtx (x.goto .pseudo)) else .next (s.complete (.seq .ioError)) := by
  simp only [pseudoAcmd, acmd, if_pos hpc, aboveIdle, decide_eq_true_eq]
  by_cases h : r1.toNat ≤ 1
  · rw [if_neg (by omega), if_pos h]
    rfl
  · rw [if_pos (by omega), if_neg h]

theorem pseudoAcmd_appTimeout (hpc : x.pc = .pseudoAppCmd) :
    pseudoAcmd c s x (some .timeout) = .next (s.complete (.seq .ioError)) := by
  simp only [pseudoAcmd, acmd, if_pos hpc]

theorem commandRow_done (hs : s.stands x .pseudo (.done p)) (c : Command) : commandRow c s = pseudoEnd s x p := by
  rw [commandRow_runs hs.1.1 hs.2 (not_ready_of_done hs.1.2.2), runProgram_awaits (r := some p) hs.1]
  rfl

theorem acmdRow_done {pc : SeqPc} (hpc : pc = .pseudo ∨ pc = .pseudoAppCmd) (hs : s.stands x pc (.done p))
    (c : Command) : acmdRow c s = pseudoAcmd c s x (some p) := by
  rw [acmdRow_runs hs.1.1 (hs.2 ▸ hpc) (not_ready_of_done hs.1.2.2), runProgram_awaits (r := some p) hs.1]

/-- A frame's row is `send_cmd` of its command, or `acmd` where its index is 23 or 41 (R131, R132). -/
theorem exec_commandOf {i : Instr} (h : commandOf i = some c) (s : State) :
    exec i s = if decide (c.idx = 23#6 ∨ c.idx = 41#6) then acmdRow c s else commandRow c s := by
  cases i
  all_goals cases h
  all_goals rfl

end

/-- Settles O39: the row of a command in a program, at its start by a client, and at its end. -/
theorem commandRowsSendTheirCommand : Obligations.CommandRowsSendTheirCommand := by
  unfold Obligations.CommandRowsSendTheirCommand
  intro i c s hi
  dsimp only
  rw [exec_commandOf hi]
  generalize decide (c.idx = 23#6 ∨ c.idx = 41#6) = app
  cases app with
  | false =>
    rw [if_neg Bool.false_ne_true]
    refine ⟨fun x ha => commandRow_ready ha c, fun hx hs _ => ?starts,
      fun _ _ h => absurd h Bool.false_ne_true, fun hx hs => ?refused, fun _ _ h => absurd h Bool.false_ne_true,
      fun _ h => absurd h Bool.false_ne_true,
      fun x r1 hs => commandRow_done hs c, fun x hs => commandRow_done hs c⟩
    case starts => exact (commandRow_none hx c).trans (requireIdleBus_ready hs _)
    case refused => exact commandRow_none hx c ▸ requireIdleBus_not hs
  | true =>
    rw [if_pos rfl]
    refine ⟨fun x ha => acmdRow_ready ha c, fun _ _ h => absurd h.symm Bool.false_ne_true,
      fun hx hs _ => ?starts, fun hx hs => ?refused,
      fun x r1 _ hs => (acmdRow_done (.inr rfl) hs c).trans (pseudoAcmd_appReply hs.2),
      fun x _ hs => (acmdRow_done (.inr rfl) hs c).trans (pseudoAcmd_appTimeout hs.2),
      fun x r1 hs => (acmdRow_done (.inl rfl) hs c).trans (pseudoAcmd_pseudo hs.2),
      fun x hs => (acmdRow_done (.inl rfl) hs c).trans (pseudoAcmd_pseudo hs.2)⟩
    case starts => exact (acmdRow_none hx c).trans (requireIdleBus_ready hs _)
    case refused => exact acmdRow_none hx c ▸ requireIdleBus_not hs

/-! ### The pseudo-operations (R161) -/

/-- The program of a pseudo-operation that is one group of engine operations: its result, once they are done. -/
def groupProgram (result : Ctx → Result) : Program := fun s x r =>
  match r with
  | some .ok => .next (s.complete (result x))
  | _ => .refused .outOfPhase

/-- What a pseudo-operation does after its first step: the program its contexts run. -/
def PseudoOp.program : PseudoOp → Program
  | .xferIn _ => groupProgram fun x => .bytes x.tmp
  | .xferOut _ => groupProgram fun _ => .done
  | .waitNotBusy _ | .waitToken _ | .sendCmd _ _ _ => pseudoProgram
  | .acmd idx arg kind => pseudoAcmd ⟨BitVec.ofNat 6 idx, arg, kind⟩

theorem pseudoGroup_eq (ops : List EngineOp) (result : Ctx → Result) (s : State) : pseudoGroup ops result s =
    pseudo (runProgram (groupProgram result) s ((Ctx.start .pseudo none).engine .pseudo ops))
      (groupProgram result) s := rfl

section

variable {s : State} {x : Ctx} {op : PseudoOp}

theorem pseudo_none (hx : s.ctx = none) (start : Outcome) (prog : Program) :
    pseudo start prog s = requireIdleBus s start := by
  simp only [pseudo, hx]

theorem pseudo_runs (hx : s.ctx = some x) (hpc : x.pc = .pseudo) (start : Outcome) (prog : Program) :
    pseudo start prog s = runProgram prog s x := by
  simp only [pseudo, hx, if_pos hpc]

theorem pseudoXferIn_of {n : Nat} (h1 : 1 ≤ n) (h2 : n ≤ 64) (s : State) :
    pseudoXferIn n s = pseudoGroup (xferIn n) (fun x => .bytes x.tmp) s := if_pos ⟨h1, h2⟩

theorem pseudoXferOut_of {bs : List Byte} (h1 : 1 ≤ bs.length) (h2 : bs.length ≤ 64) (s : State) :
    pseudoXferOut bs s = pseudoGroup (xferOut bs) (fun _ => .done) s := if_pos ⟨h1, h2⟩

/-- A pseudo-operation out of its range is refused before anything else (R251, R252, R260). -/
theorem execPseudo_range (h : op.inRange = false) (s : State) : execPseudo op s = .refused .range := by
  cases op with
  | xferIn _ | xferOut _ => exact if_neg (by simpa [PseudoOp.inRange, Config.chunk] using h)
  | sendCmd idx _ _ | acmd idx _ _ => exact if_neg (by simpa [PseudoOp.inRange] using h)
  | waitNotBusy _ | waitToken _ => cases h

/-- The first step needs an owned, idle bus (R161, R205). -/
theorem execPseudo_none (hin : op.inRange = true) (hx : s.ctx = none) :
    ∃ k, execPseudo op s = requireIdleBus s k := by
  cases op with
  | xferIn n =>
    obtain ⟨h1, h2⟩ : 1 ≤ n ∧ n ≤ 64 := by simpa [PseudoOp.inRange] using hin
    exact ⟨_, (pseudoXferIn_of h1 h2 s).trans (pseudo_none hx _ _)⟩
  | xferOut bs =>
    obtain ⟨h1, h2⟩ : 1 ≤ bs.length ∧ bs.length ≤ 64 := by simpa [PseudoOp.inRange] using hin
    exact ⟨_, (pseudoXferOut_of h1 h2 s).trans (pseudo_none hx _ _)⟩
  | waitNotBusy _ | waitToken _ => exact ⟨_, pseudo_none hx _ _⟩
  | sendCmd idx _ _ => exact ⟨_, (if_pos (of_decide_eq_true hin)).trans (commandRow_none hx _)⟩
  | acmd idx _ _ => exact ⟨_, (if_pos (of_decide_eq_true hin)).trans (acmdRow_none hx _)⟩

/-- A later step goes on with the operation's program. -/
theorem execPseudo_runs (hin : op.inRange = true) (hx : s.ctx = some x)
    (hpc : x.pc = .pseudo ∨ (x.pc = .pseudoAppCmd ∧ op.isAcmd = true)) (hr : ¬ (x.phase = .ready ∧ x.micro = [])) :
    execPseudo op s = runProgram op.program s x := by
  have hpseudo (hno : op.isAcmd = false) : x.pc = .pseudo := by simpa [hno] using hpc
  cases op with
  | xferIn n =>
    obtain ⟨h1, h2⟩ : 1 ≤ n ∧ n ≤ 64 := by simpa [PseudoOp.inRange] using hin
    exact (pseudoXferIn_of h1 h2 s).trans (pseudo_runs hx (hpseudo rfl) _ _)
  | xferOut bs =>
    obtain ⟨h1, h2⟩ : 1 ≤ bs.length ∧ bs.length ≤ 64 := by simpa [PseudoOp.inRange] using hin
    exact (pseudoXferOut_of h1 h2 s).trans (pseudo_runs hx (hpseudo rfl) _ _)
  | waitNotBusy _ | waitToken _ => exact pseudo_runs hx (hpseudo rfl) _ _
  | sendCmd idx _ _ => exact (if_pos (of_decide_eq_true hin)).trans (commandRow_runs hx (hpseudo rfl) hr _)
  | acmd idx _ _ => exact (if_pos (of_decide_eq_true hin)).trans (acmdRow_runs hx (hpc.imp_right And.left) hr _)

theorem execPseudo_done {p : PrimResult} {pc : SeqPc} (hin : op.inRange = true) (hs : s.stands x pc (.done p))
    (hpc : pc = .pseudo ∨ (pc = .pseudoAppCmd ∧ op.isAcmd = true)) : execPseudo op s = op.program s x (some p) := by
  obtain ⟨ha, rfl⟩ := hs
  rw [execPseudo_runs hin ha.1 hpc (not_ready_of_done ha.2.2), runProgram_awaits (r := some p) ha]

end

/-- The first step of a group is its `reset()` (R210, R251, R252). -/
theorem runMicro_reset {s : State} (hs : s.ready) (x : Ctx) (rest : List EngineOp) : runMicro s x .reset rest =
    .next ((s.withEngine s.engine.cleared).withCtx { x with micro := rest }) := by
  have hreset : engineOp s.cur .reset s = .done (s.withEngine s.engine.cleared) none :=
    resetOp_done.2 ⟨hs.1, hs.2, rfl, rfl⟩
  simp only [runMicro, hreset]
  rfl

/-- Settles O44: the ranges, the first steps, and the program of each pseudo-operation. -/
theorem pseudoOperations : Obligations.PseudoOperations := by
  unfold Obligations.PseudoOperations
  refine ⟨fun s n idx bs arg kind => ?ranges, fun s op hx hs => ?refused, fun s n idx T bs arg kind hx hs => ?starts,
    fun s x n idx T r1 bs arg kind h1 h2 hb1 hb2 hidx => ?ends, fun s op x hin hx hpc => ?goesOn⟩
  case ranges =>
    refine ⟨fun h => execPseudo_range ?_ s, fun h => execPseudo_range ?_ s, fun h => ⟨execPseudo_range ?_ s,
      execPseudo_range ?_ s⟩⟩
    · rcases h with rfl | h
      · rfl
      · simp [PseudoOp.inRange, h]
    · rcases h with rfl | h
      · rfl
      · simp [PseudoOp.inRange, h]
    · exact decide_eq_false (by omega)
    · exact decide_eq_false (by omega)
  case refused =>
    cases hin : op.inRange with
    | false => exact ⟨_, execPseudo_range hin s⟩
    | true =>
      obtain ⟨k, hk⟩ := execPseudo_none hin hx
      exact hk ▸ requireIdleBus_not hs
  case starts =>
    refine ⟨fun h1 h2 => ?xferIn, fun h1 h2 => ?xferOut, (pseudo_none hx _ _).trans (requireIdleBus_ready hs _),
      (pseudo_none hx _ _).trans (requireIdleBus_ready hs _), fun h => ?sendCmd, fun h => ?acmd⟩
    case xferIn =>
      refine (pseudoXferIn_of h1 h2 s).trans ((pseudo_none hx _ _).trans ((requireIdleBus_ready hs _).trans ?_))
      exact runMicro_reset hs _ _
    case xferOut =>
      refine (pseudoXferOut_of h1 h2 s).trans ((pseudo_none hx _ _).trans ((requireIdleBus_ready hs _).trans ?_))
      exact runMicro_reset hs _ _
    case sendCmd => exact (if_pos h).trans ((commandRow_none hx _).trans (requireIdleBus_ready hs _))
    case acmd => exact (if_pos h).trans ((acmdRow_none hx _).trans (requireIdleBus_ready hs _))
  case ends =>
    have hin : (PseudoOp.xferIn n).inRange = true := by simp [PseudoOp.inRange, h1, h2]
    have hout : (PseudoOp.xferOut bs).inRange = true := by simp [PseudoOp.inRange, hb1, hb2]
    have hsend : (PseudoOp.sendCmd idx arg kind).inRange = true := decide_eq_true hidx
    have hacmd : (PseudoOp.acmd idx arg kind).inRange = true := decide_eq_true hidx
    refine ⟨fun hs => ⟨execPseudo_done hin hs (.inl rfl), execPseudo_done hout hs (.inl rfl),
        execPseudo_done rfl hs (.inl rfl), execPseudo_done rfl hs (.inl rfl)⟩,
      fun hs => ⟨execPseudo_done rfl hs (.inl rfl), execPseudo_done rfl hs (.inl rfl),
        execPseudo_done hsend hs (.inl rfl), (execPseudo_done hacmd hs (.inl rfl)).trans (pseudoAcmd_pseudo hs.2)⟩,
      fun hs => execPseudo_done rfl hs (.inl rfl),
      fun hs => ⟨execPseudo_done hsend hs (.inl rfl),
        (execPseudo_done hacmd hs (.inl rfl)).trans (pseudoAcmd_pseudo hs.2)⟩,
      fun hs => (execPseudo_done hacmd hs (.inr ⟨rfl, rfl⟩)).trans (pseudoAcmd_appReply hs.2),
      fun hs => (execPseudo_done hacmd hs (.inr ⟨rfl, rfl⟩)).trans (pseudoAcmd_appTimeout hs.2),
      fun hs => (if_pos hidx).trans (acmdRow_ready hs.1 _)⟩
  case goesOn =>
    refine ⟨fun e rest hm => ?micro, fun hm hr hd => ?primitive⟩
    case micro => exact (execPseudo_runs hin hx hpc (by simp [hm])).trans (runProgram_micro hm)
    case primitive =>
      exact (execPseudo_runs hin hx hpc fun h => hr h.1).trans (runProgram_primitive hm hr hd)

end Sys2Proof.Machine

/-! PROOFS. What an initialization ends with (O52). -/

namespace Sys2Proof.Machine

open Sys2Proof

section

variable {s : State} {x : Ctx} {d : Nat} {dv : Device} {r1 : Byte}

/-- The OCR of a status 0x00 decides the flag and the type (R128, R305). -/
theorem initOcrReply_ok {ocr : BitVec 32} (h : x.ext = some ocr) : initOcrReply d s x 0x00#8 =
    .next (if ocr.getLsbD 31 = true ∧ ocr.getLsbD 30 = true
      then (s.withHc d true).withCtx ({ x with cand := some .sdhc }.goto .i6SetBlocklen)
      else s.withCtx (x.goto .i6SetBlocklen)) := by
  simp only [initOcrReply, accepted, decide_true, if_true, h, ocrHighCapacity, Bool.and_eq_true]
  split
  · rfl
  · rfl

theorem accepted_ne (h : r1 ≠ 0x00#8) : accepted r1 = false := decide_eq_false h

end

/-- Settles O52: the branches of I5, I6, I7 and IF in `initProgram`. -/
theorem initializationWritesItsOutcome : Obligations.InitializationWritesItsOutcome := by
  unfold Obligations.InitializationWritesItsOutcome
  intro i s d x dv r1 hi hd fails exits
  have ready {pc : SeqPc} {o : Outcome} (hs : s.stands x pc .ready)
      (ho : ∀ deliver, initProgram d deliver s x none = o) : exec i s = o :=
    exec_initialization (r := none) hi hd hs ho
  have done {pc : SeqPc} {p : PrimResult} {o : Outcome} (hs : s.stands x pc (.done p))
      (ho : ∀ deliver, initProgram d deliver s x (some p) = o) : exec i s = o :=
    exec_initialization (r := some p) hi hd hs ho
  refine ⟨fun hs => ready hs fun deliver => ?readOcr, fun ocr hs hocr => done hs fun deliver => ?ocr,
    fun hs => ready hs fun deliver => ?blocklen, fun hs => done hs fun deliver => ?accepted, fun hs hne => ?rejected,
    fun hs => ?timeout, fun card hs hcard => ready hs fun deliver => ?success,
    fun e hs => ready hs fun deliver => ?failure⟩
  case readOcr =>
    simp only [initProgram, hs.2]
    rfl
  case ocr =>
    simp only [initProgram, hs.2]
    exact initOcrReply_ok hocr
  case blocklen =>
    simp only [initProgram, hs.2, initBlocklen, hd]
    rfl
  case accepted =>
    simp only [initProgram, hs.2]
    rfl
  case rejected =>
    rcases hs with hs | hs
    · refine done hs fun deliver => ?_
      simp only [initProgram, hs.2, initOcrReply, accepted_ne hne, Bool.false_eq_true, if_false]
      rfl
    · refine done hs fun deliver => ?_
      simp only [initProgram, hs.2, initBlocklenReply, accepted_ne hne, Bool.false_eq_true, if_false]
      rfl
  case timeout =>
    rcases hs with hs | hs
    · refine done hs fun deliver => ?_
      simp only [initProgram, hs.2]
      rfl
    · refine done hs fun deliver => ?_
      simp only [initProgram, hs.2]
      rfl
  case success =>
    simp only [initProgram, hs.2, initReady, hd, hcard]
    rfl
  case failure =>
    simp only [initProgram, hs.2, initFail, hd]
    rfl

end Sys2Proof.Machine

/-! PROOFS. The bus lock and lines, the field builder, and the answers of the block-device interface (O20, O22, O24 to
O27, O60). -/

namespace Sys2Proof.Machine

open Sys2Proof

/-! ### Creating the lock and freeing the bus (R200, R204) -/

theorem busInitOp_refused {s : State} (h : s.lock.ready = true) : busInitOp s = .refuse .lockExists := by
  simp [busInitOp, h]

/-- Settles O20: the two cases of `busInitOp`. -/
theorem busInitCreatesTheLock : Obligations.BusInitCreatesTheLock := by
  unfold Obligations.BusInitCreatesTheLock
  exact fun s => ⟨fun h => congrArg Flow.request (busInitOp_done.2 ⟨h, rfl, rfl⟩),
    fun h => congrArg Flow.request (busInitOp_refused h)⟩

/-- Settles O22: `releaseOp` behind the guard of R205. -/
theorem releaseFreesTheBus : Obligations.ReleaseFreesTheBus := by
  unfold Obligations.ReleaseFreesTheBus
  exact fun s => ⟨fun ⟨ho, hb⟩ => congrArg Flow.request (releaseOp_done.2 ⟨ho, hb, rfl, rfl⟩),
    fun ho => congrArg Flow.request (ownedIdle_not ho), fun ho hb => congrArg Flow.request (ownedIdle_busy ho hb)⟩

/-! ### Bus lines (R207 to R209) -/

theorem driveCs_hardware {c : Nat} {v : CsLine} {s : State} (ho : s.owns c = true) (hb : s.engine.busy = false)
    (hcm : s.latch.csMode = some .hardware) : driveCs c v s = .refuse .csMode := by
  rw [driveCs, ownedIdle_of ho hb, hcm]

/-- Settles O24: what `setClockOp` and `driveCs` do for the owner of an idle bus. -/
theorem busLineOperations : Obligations.BusLineOperations := by
  unfold Obligations.BusLineOperations
  intro s ⟨ho, hb⟩
  refine ⟨fun word => congrArg Flow.request (setClockOp_done.2 ⟨ho, hb, rfl, rfl⟩), fun hcm => ?software,
    fun hcm => ?hardware⟩
  case software =>
    exact ⟨congrArg Flow.request (driveCs_done.2 ⟨ho, hb, hcm, rfl, rfl⟩),
      congrArg Flow.request (driveCs_done.2 ⟨ho, hb, hcm, rfl, rfl⟩)⟩
  case hardware =>
    exact ⟨congrArg Flow.request (driveCs_hardware ho hb hcm), congrArg Flow.request (driveCs_hardware ho hb hcm)⟩

/-! ### The field builder (R210 to R215) -/

/-- Settles O25: the fields that `Engine.cleared` leaves. -/
theorem resetClearsTheFields : Obligations.ResetClearsTheFields := by
  unfold Obligations.ResetClearsTheFields
  intro s ⟨ho, hb⟩
  exact ⟨s.engine.cleared, congrArg Flow.request (resetOp_done.2 ⟨ho, hb, rfl, rfl⟩), rfl, rfl, rfl, rfl, rfl, rfl, rfl,
    rfl, rfl, rfl, rfl, rfl, rfl, rfl, hb⟩

/-- Settles O26: the completions of the three operations, each with its operands in their ranges. -/
theorem commandAddressAndShape : Obligations.CommandAddressAndShape := by
  unfold Obligations.CommandAddressAndShape
  refine ⟨fun s len ⟨ho, hb⟩ => ⟨fun value h1 h2 hv => ?command, fun value h1 h2 hv => ?address⟩,
    fun s beo bei dummy recv ⟨ho, hb⟩ hd hr => ?shape⟩
  case command => exact congrArg Flow.request (setCommandOp_done.2 ⟨ho, hb, ⟨h1, h2, hv⟩, rfl, rfl⟩)
  case address => exact congrArg Flow.request (setAddressOp_done.2 ⟨ho, hb, ⟨h1, h2, hv⟩, rfl, rfl⟩)
  case shape => exact congrArg Flow.request (configureExecOp_done.2 ⟨ho, hb, ⟨hd, hr⟩, rfl, rfl⟩)

/-- The places of OUT_BUF that hold the bytes of `set_output` (R213). -/
theorem outBufOf_inside {bs : List Byte} {i : Nat} (h : i < bs.length) : (outBufOf bs)[i]? = some bs[i]? := by
  simp [outBufOf, List.getElem?_append_left, h]

/-- The places of OUT_BUF past those bytes are UNDEF (R213). -/
theorem outBufOf_rest {bs : List Byte} {i : Nat} (h : bs.length ≤ i) (hi : i < 64) : (outBufOf bs)[i]? = some none := by
  rw [outBufOf, List.getElem?_append_right (by simpa using h), List.length_map, List.getElem?_replicate]
  exact if_pos (by omega)

/-- The places of OUT_BUF under a pattern: byte `j` of the word in every group of four (R214). -/
theorem patternBuf_group (word : BitVec 32) {g j : Nat} (hg : g < 16) (hj : j < 4) :
    (patternBuf word)[4 * g + j]? = some (some (word.extractLsb' (8 * j) 8)) := by
  have hlt : 4 * g + j < 64 := by omega
  have hmod : (4 * g + j) % 4 = j := by omega
  simp [patternBuf, hlt, hmod]

theorem Memory.readBytes_getElem? (m : List Host.Cell) (base : Nat) {n i : Nat} (h : i < n) :
    (Memory.readBytes m base n)[i]? = some (Memory.read m (base + i)) := by
  simp [Memory.readBytes_eq, h]

/-- Settles O27: OUT_BUF, place by place, after the bytes of `set_output` and after a pattern. -/
theorem outputField : Obligations.OutputField := by
  unfold Obligations.OutputField
  intro s len ⟨ho, hb⟩ h1 h2
  refine ⟨fun r bs hbs => ?bytes, fun word => ?pattern⟩
  case bytes =>
    have hread := State.readBuffer_some hbs
    have hlen : bs.length = ceil8 len := by rw [hread, Memory.readBytes_length]
    refine ⟨outBufOf bs, (exec_setOutput_of_read hbs).trans
      (congrArg Flow.request (setOutputOp_done.2 ⟨ho, hb, ⟨h1, h2, hlen⟩, rfl, rfl⟩)),
      outBufOf_length (hlen ▸ ceil8_le h2), fun i hi => ?_, fun i hi => outBufOf_rest (hlen ▸ hi)⟩
    rw [outBufOf_inside (hlen ▸ hi), hread, Memory.readBytes_getElem? _ _ hi]
    rfl
  case pattern =>
    exact ⟨patternBuf word, congrArg Flow.request (setOutputPatternOp_done.2 ⟨ho, hb, ⟨h1, h2⟩, rfl, rfl⟩),
      patternBuf_length word, fun g j => patternBuf_group word⟩

/-! ### The block-device interface (R400 to R407) -/

section

variable {s : State} {u : Nat}

theorem answer_created (h : s.lock.ready = true) (r : Result) : answer s r = .next (s.complete r) := if_pos h

theorem answer_noLock (h : s.lock.ready = false) (r : Result) : answer s r = .refused .noLock := by simp [answer, h]

theorem exec_status_device {dv : Device} (hd : s.devices[u]? = some dv) : exec (.status u) s =
    answer s (if dv.session.stateField = .ready then .ready else .notReady) := by
  change execStatus u s = _
  simp only [execStatus, hd]

theorem exec_status_invalid (h : s.devices.length ≤ u) : exec (.status u) s = answer s .notReady := by
  change execStatus u s = _
  simp only [execStatus, List.getElem?_eq_none h]

/-- `status` is an answer, whatever the unit is. -/
theorem exec_status_answer (s : State) (u : Nat) : ∃ r, exec (.status u) s = answer s r := by
  cases hd : s.devices[u]? with
  | none => exact ⟨_, exec_status_invalid (List.getElem?_eq_none_iff.1 hd)⟩
  | some dv => exact ⟨_, exec_status_device hd⟩

/-- The session's field `STATE` is `READY` exactly in a session with a card type (R55, R56). -/
theorem stateField_ready_iff {se : Session} : se.stateField = .ready ↔ ∃ card, se = .ready card := by
  cases se <;> simp [Session.stateField]

theorem State.validUnit_eq_false (h : s.devices.length ≤ u) : s.validUnit u = false :=
  decide_eq_false (Nat.not_lt.2 h)

/-- On a unit that is no device the operations that would use the bus give their answer of failure (R401 to R404,
R407). -/
theorem exec_invalid_unit (h : s.devices.length ≤ u) (first count buf : Nat) :
    exec (.upInitialize u) s = answer s .notReady ∧ exec (.upRead u first count buf) s = answer s .upIoError ∧
      exec (.upWrite u first count buf) s = answer s .upIoError ∧ exec (.blockCount u) s = answer s (.number 0#32) := by
  have hv : ¬ s.validUnit u = true := by simp [State.validUnit_eq_false h]
  exact ⟨if_neg hv, if_neg hv, if_neg hv, if_neg hv⟩

end

/-- Settles O60: each operation is an `answer`, which completes where the lock exists and is refused before. -/
theorem blockDeviceAnswers : Obligations.BlockDeviceAnswers := by
  unfold Obligations.BlockDeviceAnswers
  refine ⟨fun s u hr => ⟨fun dv card hd hse => ?ready, fun dv hd hse => ?notReady, fun hu => ?invalid,
    answer_created hr _, answer_created hr _⟩, fun s u first count buf hr hu => ?invalidUnit,
    fun s u first count buf hr => ⟨?statusNoLock, answer_noLock hr _, answer_noLock hr _, fun hu => ?unitNoLock⟩⟩
  case ready => rw [exec_status_device hd, if_pos (stateField_ready_iff.2 ⟨card, hse⟩), answer_created hr]
  case notReady =>
    rw [exec_status_device hd, if_neg fun h => (stateField_ready_iff.1 h).elim hse, answer_created hr]
  case invalid => rw [exec_status_invalid hu, answer_created hr]
  case invalidUnit =>
    obtain ⟨hinit, hread, hwrite, hcount⟩ := exec_invalid_unit hu first count buf
    simp only [hinit, hread, hwrite, hcount, answer_created hr, and_self]
  case statusNoLock =>
    obtain ⟨r, h⟩ := exec_status_answer s u
    rw [h, answer_noLock hr]
  case unitNoLock =>
    obtain ⟨hinit, hread, hwrite, hcount⟩ := exec_invalid_unit hu first count buf
    simp only [hinit, hread, hwrite, hcount, answer_noLock hr, and_self]

end Sys2Proof.Machine

/-! PROOFS. The client that calls acquire on a bus it owns (O19). -/

namespace Sys2Proof.Machine

open Sys2Proof

/-- What a client asks for by an instruction's own encoding is that instruction. -/
theorem Request.leads_callOf {i : Instr} {s t : State} (hi : i.wellFormed = true) :
    (Request.encoded (callOf i)).leads s t ↔ exec i s = .next t := by
  constructor
  · rintro (⟨call, j, hcall, hj, h⟩ | ⟨op, hop, -⟩)
    · cases hcall
      obtain rfl : i = j := Except.ok.inj ((decodeCall_callOf i hi).symm.trans hj)
      exact h
    · cases hop
  · exact fun h => .inl ⟨_, i, rfl, decodeCall_callOf i hi, h⟩

section

variable {s t : State} {c dev : Nat}

/-- The nested call is still there where nothing that it speaks of has changed. -/
theorem State.nestedAcquire.congr (h : s.nestedAcquire c dev) (hready : t.lock.ready = s.lock.ready)
    (howner : t.lock.owner = s.lock.owner) (hbusy : t.engine.busy = false)
    (hdevices : t.devices.length = s.devices.length) (hclient : t.clients[c]? = s.clients[c]?) :
    t.nestedAcquire c dev := by
  obtain ⟨hr, ho, -, hd, hcl⟩ := h
  exact ⟨hready.trans hr, howner.trans ho, hbusy, hdevices ▸ hd, hclient ▸ hcl⟩

/-- The shifter touches neither the lock nor a client, and starts no transaction. -/
theorem State.nestedAcquire.shifted (h : s.nestedAcquire c dev) (k : Shifted s t) : t.nestedAcquire c dev := by
  have ⟨_, _, hidle, _⟩ := h
  have hbusy : t.engine.busy = false := Bool.eq_false_iff.2 fun hb => Bool.false_ne_true (hidle.symm.trans (k.busy hb))
  exact h.congr (congrArg Lock.ready k.lock) (congrArg Lock.owner k.lock) hbusy k.count (by rw [k.clients])

/-- The step of another client leaves the bus and the calls of its owner alone. -/
theorem State.nestedAcquire.other (h : s.nestedAcquire c dev) (hne : s.cur ≠ c) (ht : clientLeads s t) :
    t.nestedAcquire c dev := by
  have ⟨hr, ho, hidle, _⟩ := h
  obtain ⟨init, heffect⟩ := ht.effect
  have hkept := heffect.busKept hr ho hne
  have hframe := heffect.clientFrame
  exact h.congr hkept.ready hkept.owner (hkept.engine ▸ hidle) hframe.devices (hframe.others c hne.symm)

/-- The owner's own step puts it among the waiters for a bus that only it can free. -/
theorem State.nestedAcquire.own (h : s.nestedAcquire s.cur dev) (ht : exec (.acquire dev) s = .next t) :
    t.nestedAcquire s.cur dev := by
  have ⟨hr, ho, hb, hd, _⟩ := h
  have hwaits := acquireOp_waits (c := s.cur) hr ho (List.getElem?_eq_getElem hd) (busyRefused_idle hb)
  rw [exec_acquire, hwaits] at ht
  cases ht
  exact h.congr rfl rfl hb rfl rfl

end

/-- Settles O19: the call stays through the steps of the shifter, of the other clients and of its own client. -/
theorem nestedAcquireIsStuck : Obligations.NestedAcquireIsStuck := by
  unfold Obligations.NestedAcquireIsStuck
  intro s t c dev hdev h ht
  have ⟨_, _, hidle, _, cl, hcl, _, hcall⟩ := h
  have hturn : s.nextAgent.2.nestedAcquire c dev :=
    h.congr (by simp) (by simp) (by simpa using hidle) (by simp) (by simp)
  obtain rfl | rfl | ⟨d, r, hr, hleads⟩ := step_cases ht
  · exact hturn.shifted (shifted_shifterStep _)
  · exact hturn
  · have hcur : (s.nextAgent.2.withCur d).nestedAcquire c dev := hturn
    by_cases hd : d = c
    · subst hd
      rw [State.pendingCall_of_client hcl, hcall] at hr
      cases hr
      exact hcur.own ((Request.leads_callOf (by simpa [Instr.wellFormed, fits32] using hdev)).1 hleads)
    · exact hcur.other hd hleads.clientLeads

end Sys2Proof.Machine
/-! PROOFS. The transactions of `xfer_in`, `xfer_out` and the wake clocks (O38). -/

namespace Sys2Proof.Machine

open Sys2Proof

/-! ### The fields that the groups of operations leave (R251, R252, R294) -/

/-- The engine's fields once a read of `n` bytes is in them (R251). -/
def Engine.receiving (e : Engine) (n : Nat) : Engine := { e.cleared with inLen := some (8 * n) }

/-- The engine's fields once an output of `len` bits, and nothing else, is in them (R252, R294). -/
def Engine.sending (e : Engine) (len : Nat) (buf : List (Option Byte)) : Engine :=
  { e.cleared with outEn := some true, outLen := some len, outBuf := buf }

theorem Engine.receiving_phases (e : Engine) (n : Nat) (bo : BitOrder) :
    (e.receiving n).phases bo = some ([], 0, 8 * n) := rfl

theorem Engine.receiving_badBeLength (e : Engine) (n : Nat) : (e.receiving n).badBeLength = false :=
  Engine.badBeLength_false nofun nofun

theorem Engine.sending_phases (e : Engine) {len : Nat} {buf : List (Option Byte)} {bs : List Byte} (bo : BitOrder)
    (h : outStream buf false (ceil8 len) = some bs) : (e.sending len buf).phases bo = some (outBits len bs bo, 0, 0) :=
  Engine.phases_iff.2 ⟨false, false, [], [], _, rfl, rfl, rfl, rfl, rfl, rfl,
    outPhase_of (en := true) rfl fun _ => ⟨rfl, h⟩, rfl⟩

theorem Engine.sending_badBeLength (e : Engine) (len : Nat) (buf : List (Option Byte)) :
    (e.sending len buf).badBeLength = false := Engine.badBeLength_false nofun nofun

/-! ### The bits of an output (R82, R213, R214) -/

theorem ceil8_bytes (n : Nat) : ceil8 (8 * n) = n := by
  unfold ceil8
  omega

/-- The bytes of `set_output` are the output stream. -/
theorem outStream_outBufOf (bs : List Byte) : outStream (outBufOf bs) false (ceil8 (8 * bs.length)) = some bs := by
  rw [ceil8_bytes]
  exact outStream_eq_some_iff.2 ⟨rfl, fun _ hj => outBufOf_inside hj⟩

/-- The bits of whole bytes are all the bits of their stream. -/
theorem outBits_bytes (bs : List Byte) : outBits (8 * bs.length) bs .msbFirst = wireBits bs := by
  have hlen : (wireBits bs).length = 8 * bs.length := by simp [wireBits, List.length_flatMap, Nat.mul_comm]
  exact List.take_of_length_le (Nat.le_of_eq hlen)

/-- The pattern of ones gives ten bytes of ones. -/
theorem outStream_ones : outStream (patternBuf 0xFFFFFFFF#32) false (ceil8 80) = some (List.replicate 10 0xFF#8) := by
  decide

theorem outBits_ones : outBits 80 (List.replicate 10 0xFF#8) .msbFirst = List.replicate 80 true := by decide

/-! ### The transactions that the groups start -/

section

variable {s : State} {c : Nat} {cm : CsMode} (ho : s.owns c = true) (hb : s.engine.busy = false)
  (hbo : s.latch.bitOrder = some .msbFirst) (hcm : s.latch.csMode = some cm)

include ho hb hbo hcm

theorem runOps_xferIn {n : Nat} (hn : n ≤ 64) : runOps c ((xferIn n).take 3) s =
    some ((s.withEngine (s.engine.receiving n)).started (snapOf [] 0 (8 * n) false .msbFirst cm)) :=
  runOps_cons.2 ⟨_, _, resetOp_done.2 ⟨ho, hb, rfl, rfl⟩,
    runOps_cons.2 ⟨_, _, configureExecOp_done.2 ⟨ho, hb, ⟨by decide, by omega⟩, rfl, rfl⟩,
    runOps_cons.2 ⟨_, _, executeOp_done.2 ⟨ho, hb, .msbFirst, cm, _, 0, 8 * n, hbo, hcm,
      s.engine.receiving_phases n _, s.engine.receiving_badBeLength n, rfl, rfl⟩, rfl⟩⟩⟩

theorem runOps_xferOut {bs : List Byte} (h1 : 1 ≤ bs.length) (h2 : bs.length ≤ 64) :
    runOps c ((xferOut bs).take 4) s = some ((s.withEngine (s.engine.sending (8 * bs.length) (outBufOf bs))).started
      (snapOf (wireBits bs) 0 0 false .msbFirst cm)) := by
  have hphases : (s.engine.sending (8 * bs.length) (outBufOf bs)).phases .msbFirst = some (wireBits bs, 0, 0) := by
    rw [Engine.sending_phases s.engine .msbFirst (outStream_outBufOf bs), outBits_bytes]
  exact runOps_cons.2 ⟨_, _, resetOp_done.2 ⟨ho, hb, rfl, rfl⟩,
    runOps_cons.2 ⟨_, _, setOutputOp_done.2 ⟨ho, hb, ⟨by omega, by omega, (ceil8_bytes _).symm⟩, rfl, rfl⟩,
    runOps_cons.2 ⟨_, _, configureExecOp_done.2 ⟨ho, hb, ⟨by decide, by decide⟩, rfl, rfl⟩,
    runOps_cons.2 ⟨_, _, executeOp_done.2 ⟨ho, hb, .msbFirst, cm, _, 0, 0, hbo, hcm, hphases,
      s.engine.sending_badBeLength _ _, rfl, rfl⟩, rfl⟩⟩⟩⟩

theorem runOps_wakeOps (hsw : cm = .software) : runOps c (wakeOps.take 5) s =
    some (((s.withCs .deasserted).withEngine (s.engine.sending 80 (patternBuf 0xFFFFFFFF#32))).started
      (snapOf (List.replicate 80 true) 0 0 false .msbFirst cm)) := by
  have hphases : (s.engine.sending 80 (patternBuf 0xFFFFFFFF#32)).phases .msbFirst =
      some (List.replicate 80 true, 0, 0) := by
    rw [Engine.sending_phases s.engine .msbFirst outStream_ones, outBits_ones]
  exact runOps_cons.2 ⟨_, _, driveCs_done.2 ⟨ho, hb, hsw ▸ hcm, rfl, rfl⟩,
    runOps_cons.2 ⟨_, _, resetOp_done.2 ⟨ho, hb, rfl, rfl⟩,
    runOps_cons.2 ⟨_, _, setOutputPatternOp_done.2 ⟨ho, hb, ⟨by decide, by decide⟩, rfl, rfl⟩,
    runOps_cons.2 ⟨_, _, configureExecOp_done.2 ⟨ho, hb, ⟨by decide, by decide⟩, rfl, rfl⟩,
    runOps_cons.2 ⟨_, _, executeOp_done.2 ⟨ho, hb, .msbFirst, cm, _, 0, 0, hbo, hcm, hphases,
      s.engine.sending_badBeLength _ _, rfl, rfl⟩, rfl⟩⟩⟩⟩⟩

end

/-- `read_result` gives the bytes that stand at the front of IN_BUF (R218, R251). -/
theorem readResultOp_bytes {s : State} {c : Nat} {bs : List Byte} (ho : s.owns c = true) (hb : s.engine.busy = false)
    (hx : s.xferInLen = some (8 * bs.length)) (h : ∀ j, j < bs.length → s.engine.inBuf[j]? = some bs[j]?) :
    readResultOp c s = .done s (some bs) := by
  have hbytes : allDefined (s.engine.inBuf.take (ceil8 (8 * bs.length))) = some bs := by
    rw [ceil8_bytes]
    exact allDefined_take rfl fun j hj =>
      ⟨bs[j], by rw [h j hj, List.getElem?_eq_getElem hj], List.getElem?_eq_getElem hj⟩
  exact readResultOp_done.2 ⟨ho, hb, rfl, _, bs, hx, hbytes, rfl⟩

/-- Settles O38: what each group of operations leaves in the fields is what `execute` snapshots. -/
theorem transfersOnTheWire : Obligations.TransfersOnTheWire := by
  unfold Obligations.TransfersOnTheWire
  intro s c cm ho hb hbo hcm
  refine ⟨fun n _ hn => ?reading, fun bs hx h => readResultOp_bytes ho hb hx h, fun bs h1 h2 => ?sending,
    fun hsw => ?waking⟩
  case reading =>
    exact ⟨_, _, runOps_xferIn ho hb hbo hcm hn, rfl, rfl, congrArg (List.replicate · true) (Nat.zero_add _), rfl, rfl⟩
  case sending => exact ⟨_, _, runOps_xferOut ho hb hbo hcm h1 h2, rfl, rfl, List.append_nil _, rfl⟩
  case waking => exact ⟨_, _, runOps_wakeOps ho hb hbo hcm hsw, rfl, rfl, List.append_nil _, rfl, rfl⟩

end Sys2Proof.Machine

/-! PROOFS. How sequencer operations leave (O48, O49), and how a block write announces its blocks and aborts (O54). -/

namespace Sys2Proof.Machine

open Sys2Proof

/-! ### A command that fails (R265, R331, R334, R339, R345, R346, R355, R370, R371) -/

/-- How a command whose status must be 0x00 fails, and the result its operation then ends with (R265). -/
inductive CommandFails : PrimResult → Res → Prop
  | rejected {r1 : Byte} (h : r1 ≠ 0x00#8) : CommandFails (.reply r1) .ioError
  | timeout : CommandFails .timeout .timeout

/-- The outcome in which the client leaves its operation by `end_op` with this result (R275). -/
def LeavesWith (s : State) (res : Res) (o : Outcome) : Prop := ∃ y : Ctx, o = .next (s.withCtx (y.exits res))

section

variable {i : Instr} {s : State} {d : Nat} {x x0 : Ctx} {dv : Device} {r1 : Byte} {p : PrimResult} {res : Res}

theorem leavesWith_endWith : LeavesWith s res (endWith s x res) := ⟨x, rfl⟩

theorem leavesWith_afterCommand (h : r1 ≠ 0x00#8) (next : SeqPc) :
    LeavesWith s .ioError (afterCommand s x r1 next) := by
  rw [afterCommand, accepted_ne h]
  exact leavesWith_endWith

/-- After the last command of an operation the status alone decides its result (R334, R355). -/
theorem leavesWith_lastCommand (h : r1 ≠ 0x00#8) :
    LeavesWith s .ioError (endWith s x (if accepted r1 then .ok else .ioError)) := by
  rw [accepted_ne h]
  exact leavesWith_endWith

theorem readProgram_fails (hp : CommandFails p res) (hpc : x.pc = .rdCommand ∨ x.pc = .rdStop)
    (first count buf : Nat) (deliver : Res → Result) :
    LeavesWith s res (readProgram d first count buf deliver s x (some p)) := by
  rcases hpc with hpc | hpc <;> cases hp <;> simp only [readProgram, hpc]
  case inl.rejected h => exact leavesWith_afterCommand h _
  case inr.rejected h => exact leavesWith_lastCommand h
  case inl.timeout | inr.timeout => exact leavesWith_endWith

/-- After ACMD23 itself (R345). -/
theorem writeAcmd_announced (hpc : x.pc = .mwEraseCount) (count : Nat) (p : PrimResult) :
    writeAcmd count s x (some p) = writeAnnounced s x p := by
  simp [writeAcmd, acmd, hpc]

theorem writeProgram_fails (hp : CommandFails p res)
    (hpc : x.pc = .wrCommand ∨ x.pc = .mwEraseCount ∨ x.pc = .mwCommand)
    (first count buf : Nat) (deliver : Res → Result) :
    LeavesWith s res (writeProgram d first count buf deliver s x (some p)) := by
  rcases hpc with hpc | hpc | hpc <;> cases hp <;> simp only [writeProgram, hpc, writeAcmd_announced]
  case inl.rejected h | inr.inl.rejected h | inr.inr.rejected h => exact leavesWith_afterCommand h _
  case inl.timeout | inr.inl.timeout | inr.inr.timeout => exact leavesWith_endWith

theorem eraseProgram_fails (hp : CommandFails p res)
    (hpc : x.pc = .erStart ∨ x.pc = .erEnd ∨ x.pc = .erErase) (first last : Nat) :
    LeavesWith s res (eraseProgram d first last s x (some p)) := by
  rcases hpc with hpc | hpc | hpc <;> cases hp <;> simp only [eraseProgram, hpc]
  case inl.rejected h | inr.inl.rejected h => exact leavesWith_afterCommand h _
  case inr.inr.rejected h => exact leavesWith_lastCommand h
  case inl.timeout | inr.inl.timeout | inr.inr.timeout => exact leavesWith_endWith

theorem registerProgram_fails (hp : CommandFails p res) (hpc : x.pc = .rgCommand) (rev : Bool)
    (store : State → Ctx → List Byte → Outcome) (deliver : State → Ctx → Res → Outcome) :
    LeavesWith s res (registerProgram d rev store deliver s x (some p)) := by
  cases hp <;> simp only [registerProgram, hpc]
  case rejected h => exact leavesWith_afterCommand h _
  case timeout => exact leavesWith_endWith

/-- At a command step whose status must be 0x00 an operation whose command fails leaves with the failure's result. -/
theorem sequencerProgram_fails (hp : CommandFails p res) (hpc : x.pc ∈ commandSteps i) :
    LeavesWith s res (sequencerProgram i s x (some p)) := by
  cases i <;> simp only [commandSteps, List.mem_cons, List.not_mem_nil, or_false] at hpc
  case sdRead | upRead => exact readProgram_fails hp hpc _ _ _ _
  case sdWrite | upWrite => exact writeProgram_fails hp hpc _ _ _ _
  case sdErase => exact eraseProgram_fails hp hpc _ _
  case sdReadCid | sdReadCsd | blockCount => exact registerProgram_fails hp hpc _ _ _

theorem exec_fails (h : sequencerStart i = some (d, x0)) (hd : s.devices[d]? = some dv) (hpc : x.pc ∈ commandSteps i)
    (ha : s.awaits x (.done p)) (hp : CommandFails p res) : ∃ x', exec i s = .next (s.withCtx x') ∧
      x'.pc = .leaving res ∧ x'.phase = .group ∧ x'.micro = [.csDeassert, .release] := by
  obtain ⟨y, hy⟩ := sequencerProgram_fails (s := s) hp hpc
  exact ⟨y.exits res, (exec_awaits (r := some p) h hd ha).trans hy, rfl, rfl, rfl⟩

end

/-- Settles O48: each program's branch for a command that fails (`sequencerProgram_fails`). -/
theorem rejectedCommandsEndInIOError : Obligations.RejectedCommandsEndInIOError := by
  unfold Obligations.RejectedCommandsEndInIOError
  exact fun i s d x0 x dv h hd hpc => ⟨fun r1 ha hr => exec_fails h hd hpc ha (.rejected hr),
    fun ha => exec_fails h hd hpc ha .timeout⟩

/-! ### The exits (R275, R309, R310, R426) -/

section

variable {s : State} {c : Nat}

theorem runOps_endOps (ho : s.owns c = true) (hb : s.engine.busy = false) (hcm : s.latch.csMode = some .software) :
    runOps c endOps s = some ((s.withCs .deasserted).withLock { s.lock with owner := none }) :=
  runOps_cons.2 ⟨_, _, driveCs_done.2 ⟨ho, hb, hcm, rfl, rfl⟩,
    runOps_cons.2 ⟨_, _, releaseOp_done.2 ⟨ho, hb, rfl, rfl⟩, rfl⟩⟩

/-- An initialization's exit is the clock's restoration and then `end_op` (R309, R310). -/
theorem runOps_exitOps (ho : s.owns c = true) (hb : s.engine.busy = false) (hcm : s.latch.csMode = some .software)
    (dv : Device) : runOps c (exitOps dv) s =
      some (((s.withLatch { s.latch with clock := some dv.clock }).withCs .deasserted).withLock
        { s.lock with owner := none }) :=
  runOps_cons.2 ⟨_, _, setClockOp_done.2 ⟨ho, hb, rfl, rfl⟩, runOps_endOps ho hb hcm⟩

end

/-- Settles O49: the engine operations of both exits complete for the owner of an idle bus. -/
theorem exitsLeaveACleanBus : Obligations.ExitsLeaveACleanBus := by
  unfold Obligations.ExitsLeaveACleanBus
  exact fun s c dv ho hb hcm => ⟨runOps_endOps ho hb hcm, runOps_exitOps ho hb hcm dv⟩

/-! ### How a block write begins and aborts (R266, R338, R345 to R349) -/

section

variable {i : Instr} {s : State} {d first count buf k : Nat} {x : Ctx} {dv : Device} {r1 : Byte}

theorem typeField_mmc_iff {se : Session} : se.typeField = .known .mmc ↔ se = .ready .mmc := by
  cases se <;> simp [Session.typeField]

theorem announces_iff : announces dv = true ↔ dv.session ≠ .ready .mmc := by
  rw [announces, decide_eq_true_iff, ne_eq, typeField_mmc_iff]

/-- With its chip-select asserted a write goes to its command, or to its announcement (R338, R345). -/
theorem writeStart_of (hd : s.devices[d]? = some dv) : writeStart d count s x = .next (s.withCtx (x.goto
    (if count = 1 then .wrCommand else if dv.session = .ready Card.mmc then .mwCommand else .mwAppCmd))) := by
  unfold writeStart
  split
  · rfl
  · simp only [hd, announces_iff, ite_not]
    rfl

/-- CMD55 lets the application command follow exactly for a status of at most 1 (R266). -/
theorem acmd_appReply {c : Option Command} {head frame : SeqPc} {failed : Option Byte → Outcome}
    {done : PrimResult → Outcome} (hpc : x.pc = head) : acmd c head frame failed done s x (some (.reply r1)) =
      if r1.toNat ≤ 1 then s.goOn (x.goto frame) else failed (some r1) := by
  simp only [acmd, if_pos hpc, aboveIdle, decide_eq_true_eq, gt_iff_lt, ← not_le, ite_not]

theorem writeAcmd_appReply (hpc : x.pc = .mwAppCmd) : writeAcmd count s x (some (.reply r1)) =
    .next (s.withCtx (if r1.toNat ≤ 1 then x.goto .mwEraseCount else x.exits .ioError)) := by
  rw [writeAcmd, acmd_appReply hpc]
  split
  · rfl
  · rfl

/-- After a block that the card has taken: the next one, or the stop token (R347, R349). -/
theorem writeNext_of (hk : x.k = some k) : writeNext count s x = .next (s.withCtx
    ({ x with k := some (k + 1) }.goto (if k + 1 < count then .mwToken else .mwStopToken))) := withBlock_of hk

theorem addressed_writesBlocks (hi : writesBlocks i d first count buf) :
    addressed i .wrCommand = some (first, .cmd24WriteBlock) ∧
    addressed i .mwCommand = some (first, .cmd25WriteMultipleBlock) := by
  obtain rfl | rfl := hi
  · exact ⟨rfl, rfl⟩
  · exact ⟨rfl, rfl⟩

end

/-- Settles O54: the places of `writeProgram`, with the first of them by `writeStart_of` and the commands that carry a
block number by `exec_addressed`. -/
theorem writesAnnounceAndAbort : Obligations.WritesAnnounceAndAbort := by
  unfold Obligations.WritesAnnounceAndAbort
  intro i s x d first count buf dv r1 hi hcount hd
  have ready {pc : SeqPc} {o : Outcome} (hs : s.stands x pc .ready)
      (ho : ∀ deliver (y : Ctx), x = { y with pc := pc } → writeProgram d first count buf deliver s x none = o) :
      exec i s = o := exec_writesBlocks (r := none) hi hcount hd hs ho
  have done {pc : SeqPc} {p : PrimResult} {o : Outcome} (hs : s.stands x pc (.done p))
      (ho : ∀ deliver (y : Ctx), x = { y with pc := pc } → writeProgram d first count buf deliver s x (some p) = o) :
      exec i s = o := exec_writesBlocks (r := some p) hi hcount hd hs ho
  refine ⟨fun hs => done hs fun _ _ h => ?start, fun a ha => ?address, fun hs => done hs fun _ _ h => h ▸ rfl,
    fun hs => ready hs fun _ _ h => ?cmd55, fun hs => done hs fun _ _ h => ?appReply,
    fun hs => done hs fun _ _ h => h ▸ rfl, fun hs => ready hs fun _ _ h => ?acmd23,
    fun hs => done hs fun _ _ h => h ▸ rfl, fun hs => done hs fun _ _ h => h ▸ rfl,
    fun hs => done hs fun _ _ h => h ▸ rfl, fun hs => done hs fun _ _ h => h ▸ rfl, ?busyWait,
    fun k hs hk => done hs fun _ _ h => ?next, fun hs => done hs fun _ _ h => h ▸ rfl,
    fun hs => done hs fun _ _ h => h ▸ rfl, fun hs => done hs fun _ _ h => h ▸ rfl,
    fun hs => done hs fun _ _ h => h ▸ rfl, fun e => ⟨fun hs => ready hs fun _ _ h => h ▸ rfl, ?abort⟩⟩
  case start =>
    subst h
    exact writeStart_of hd
  case address =>
    have hstart := sequencerStart_writesBlocks hi hcount
    obtain ⟨hsingle, hmulti⟩ := addressed_writesBlocks hi
    exact ⟨fun hs => (exec_addressed hsingle hstart hd hs).2 a ha,
      fun hs => (exec_addressed hmulti hstart hd hs).2 a ha⟩
  case cmd55 =>
    have hrow := commandRow_ready hs.1 appCmd
    subst h
    exact hrow.symm
  case appReply =>
    subst h
    exact writeAcmd_appReply rfl
  case acmd23 =>
    have hrow := acmdRow_ready hs.1 ⟨23, BitVec.ofNat 32 count, .r1⟩
    subst h
    exact hrow.symm
  case busyWait =>
    rintro (hs | hs)
    · exact ready hs fun _ _ h => h ▸ rfl
    · exact ready hs fun _ _ h => h ▸ rfl
  case next =>
    subst h
    exact writeNext_of hk
  case abort =>
    rintro (hs | hs)
    · exact done hs fun _ _ h => h ▸ rfl
    · exact done hs fun _ _ h => h ▸ rfl

end Sys2Proof.Machine

/-! PROOFS. The probe of an initialization (O50). -/

namespace Sys2Proof.Machine

open Sys2Proof

section

variable {s : State} {x : Ctx}

/-- Of GO_IDLE_STATE's status only 0x01 goes on (R295). -/
theorem initIdleReply_eq (r1 : Byte) : initIdleReply s x r1 =
    .next (s.withCtx (x.goto (if r1 = 0x01#8 then .i3SendIfCond else .iFail .ioError))) := by
  unfold initIdleReply
  split
  · rfl
  · rfl

/-- The three classes of SEND_IF_COND's reply, once the echo is there to be read (R297, R298). -/
theorem initIfCondReply_of {e : BitVec 32} (h : x.ext = some e) (r1 : Byte) : initIfCondReply s x r1 =
    .next (s.withCtx
      (if r1 = 0x05#8 then { x with cand := some .sdV1 }.goto .i4BringUp
      else if r1 = 0x01#8 ∧ e.extractLsb' 0 12 = 0x1AA#12 then { x with cand := some .sdV2 }.goto .i4BringUp
      else x.goto (.iFail .ioError))) := by
  simp only [initIfCondReply, h, echoOk, decide_eq_true_eq]
  split
  · rfl
  · split
    · rfl
    · rfl

end

/-- Settles O50: the branches of I0 to I3 in `initProgram`, with the replies of I2 and I3 by `initIdleReply_eq` and
`initIfCondReply_of`. -/
theorem probeClassifies : Obligations.ProbeClassifies := by
  unfold Obligations.ProbeClassifies
  intro i s d x dv r1 e hi hd
  have ready {pc : SeqPc} {o : Outcome} (hs : s.stands x pc .ready)
      (ho : ∀ deliver, initProgram d deliver s x none = o) : exec i s = o :=
    exec_initialization (r := none) hi hd hs ho
  have done {pc : SeqPc} {p : PrimResult} {o : Outcome} (hs : s.stands x pc (.done p))
      (ho : ∀ deliver, initProgram d deliver s x (some p) = o) : exec i s = o :=
    exec_initialization (r := some p) hi hd hs ho
  refine ⟨fun hs => done hs fun deliver => ?clear, fun hs => ready hs fun deliver => ?wake,
    fun hs => done hs fun deliver => ?woken, fun hs => ready hs fun deliver => ?goIdle,
    fun hs => done hs fun deliver => ?idleReply, fun hs => done hs fun deliver => ?idleTimeout,
    fun hs => ready hs fun deliver => ?sendIfCond, fun hs hext => done hs fun deliver => ?ifCondReply,
    fun hs => done hs fun deliver => ?ifCondTimeout⟩
  case clear =>
    simp only [initProgram, hs.2]
    rfl
  case wake =>
    simp only [initProgram, hs.2, Ctx.engine]
    rw [← hs.2]
    rfl
  case woken =>
    simp only [initProgram, hs.2]
    rfl
  case goIdle =>
    simp only [initProgram, hs.2]
    rfl
  case idleReply =>
    simp only [initProgram, hs.2, initIdleReply_eq]
  case idleTimeout =>
    simp only [initProgram, hs.2]
    rfl
  case sendIfCond =>
    simp only [initProgram, hs.2]
    rfl
  case ifCondReply =>
    simp only [initProgram, hs.2, initIfCondReply_of hext]
  case ifCondTimeout =>
    simp only [initProgram, hs.2]
    rfl

end Sys2Proof.Machine

/-! PROOFS. The three commands of an erase (O57). -/

namespace Sys2Proof.Machine

open Sys2Proof

section

variable {s : State} {x : Ctx} {d first last : Nat} {dv : Device} {pc : SeqPc} {r : Option PrimResult}

/-- Where its program gets control, an erase's step is the program's. -/
theorem exec_sdErase {o : Outcome} (hd : s.devices[d]? = some dv) (hs : s.stands x pc (phaseOf r))
    (ho : ∀ y : Ctx, x = { y with pc := pc } → eraseProgram d first last s x r = o) :
    exec (.sdErase d first last) s = o :=
  (exec_awaits rfl hd hs.1).trans (Program.step_at hs.2 ho)

/-- Status 0x00 after a command takes a program to its next step (R265). -/
theorem afterCommand_accepted (s : State) (x : Ctx) (next : SeqPc) :
    afterCommand s x 0x00#8 next = .next (s.withCtx (x.goto next)) := rfl

/-- After the last command of an operation status 0x00 ends it in Ok (R334, R355). -/
theorem endWith_lastAccepted (s : State) (x : Ctx) :
    endWith s x (if accepted 0x00#8 then .ok else .ioError) = .next (s.withCtx (x.exits .ok)) := rfl

end

/-- Settles O57: the places of `eraseProgram`, with the two commands that carry a block number by `exec_addressed`. -/
theorem eraseSequence : Obligations.EraseSequence := by
  unfold Obligations.EraseSequence
  intro s x d first last dv a hd
  have done {pc : SeqPc} {p : PrimResult} {o : Outcome} (hs : s.stands x pc (.done p))
      (ho : ∀ y : Ctx, x = { y with pc := pc } → eraseProgram d first last s x (some p) = o) :
      exec (.sdErase d first last) s = o := exec_sdErase (r := some p) hd hs ho
  refine ⟨fun hs => done hs fun _ h => ?selected, fun hs ha => (exec_addressed rfl rfl hd hs).2 a ha,
    fun hs => done hs fun _ h => ?startAccepted, fun hs ha => (exec_addressed rfl rfl hd hs).2 a ha,
    fun hs => done hs fun _ h => ?endAccepted, fun hs => exec_sdErase (r := none) hd hs fun _ h => ?erase,
    fun hs => done hs fun _ h => ?eraseAccepted⟩ <;> subst h
  case selected => rfl
  case startAccepted => exact afterCommand_accepted s _ .erEnd
  case endAccepted => exact afterCommand_accepted s _ .erErase
  case erase => rfl
  case eraseAccepted => exact endWith_lastAccepted s _

end Sys2Proof.Machine

/-! PROOFS. The fields of the CID and CSD registers, and the capacity of a CSD (O59). -/

namespace Sys2Proof.Machine

open Sys2Proof

/-! ### A register as one number -/

/-- Byte `i` of a number in base 256 is byte `i` of the list it was read from. -/
theorem ofBytesLE_byte (bs : List Byte) (i : Nat) : ofBytesLE bs / 256 ^ i % 256 = (regByte bs i).toNat := by
  induction i generalizing bs with
  | zero =>
    cases bs with
    | nil => rfl
    | cons b bs =>
      have hb := b.isLt
      simp only [ofBytesLE, regByte, List.getElem?_cons_zero, Option.getD_some]
      omega
  | succ i ih =>
    cases bs with
    | nil => simp [ofBytesLE, regByte]
    | cons b bs =>
      have hrest : (b.toNat + 256 * ofBytesLE bs) / 256 = ofBytesLE bs := by omega
      simp only [ofBytesLE, regByte, List.getElem?_cons_succ]
      rw [Nat.pow_succ', ← Nat.div_div_eq_div_mul, hrest]
      exact ih bs

/-- Of 16 bytes no bit is lost in the 128 bits of a register. -/
theorem csdOf_toNat {bs : List Byte} (h : bs.length = 16) : (csdOf bs).toNat = ofBytesLE bs := by
  have hlt : ofBytesLE bs < 2 ^ 128 := by
    have hbytes := ofBytesLE_lt bs
    rwa [h] at hbytes
  rw [csdOf, List.take_of_length_le h.le, BitVec.toNat_ofNat, Nat.mod_eq_of_lt hlt]

theorem csdField_csdOf {bs : List Byte} (h : bs.length = 16) (hi lo : Nat) :
    csdField (csdOf bs) hi lo = ofBytesLE bs / 2 ^ lo % 2 ^ (hi + 1 - lo) := by
  rw [csdField, BitVec.extractLsb'_toNat, Nat.shiftRight_eq_div_pow, csdOf_toNat h]

theorem csdField_lt (csd : BitVec 128) (hi lo : Nat) : csdField csd hi lo < 2 ^ (hi + 1 - lo) := BitVec.isLt _

/-! ### CID (R375, R376) -/

/-- Bits of a run of bits. -/
theorem extractLsb'_extractLsb' {w m : Nat} (v : BitVec w) (lo k : Nat) {n : Nat} (h : k + n ≤ m) :
    (v.extractLsb' lo m).extractLsb' k n = v.extractLsb' (lo + k) n := by
  ext i hi
  have hm : k + i < m := by omega
  simp [hm, Nat.add_assoc]

/-- Byte `i` of a CID, in the number that has byte 0 as its most significant. -/
theorem regByte_eq_extractLsb' {buf : List Byte} (h : buf.length = 16) {i : Nat} (hi : i < 16) :
    regByte buf i = (csdOf buf.reverse).extractLsb' (8 * (15 - i)) 8 := by
  have hrev : regByte buf.reverse (15 - i) = regByte buf i := by
    simp only [regByte, List.getElem?_reverse (show 15 - i < buf.length by omega)]
    rw [show buf.length - 1 - (15 - i) = i by omega]
  apply BitVec.eq_of_toNat_eq
  rw [BitVec.extractLsb'_toNat, Nat.shiftRight_eq_div_pow, csdOf_toNat (by simpa using h), Nat.pow_mul,
    ← hrev, ← ofBytesLE_byte]

/-- Every field of a CID is a run of bits of the one number. -/
theorem cidDecode_eq {buf : List Byte} (h : buf.length = 16) :
    let cid := csdOf buf.reverse
    cidDecode buf =
      { mid := cid.extractLsb' 120 8, oid := [cid.extractLsb' 112 8, cid.extractLsb' 104 8]
        pnm := [cid.extractLsb' 96 8, cid.extractLsb' 88 8, cid.extractLsb' 80 8, cid.extractLsb' 72 8,
          cid.extractLsb' 64 8]
        prv := cid.extractLsb' 56 8, psn := cid.extractLsb' 24 32
        mdtYear := (cid.extractLsb' 12 8).toNat + 2000, mdtMonth := (cid.extractLsb' 8 4).toNat
        crc := cid.extractLsb' 1 7 } := by
  intro cid
  have byte {i : Nat} (hi : i < 16) : regByte buf i = cid.extractLsb' (8 * (15 - i)) 8 := regByte_eq_extractLsb' h hi
  have psn : be32 (regByte buf 9) (regByte buf 10) (regByte buf 11) (regByte buf 12) = cid.extractLsb' 24 32 := by
    rw [← be32_bytes (cid.extractLsb' 24 32)]
    simp [byte, extractLsb'_extractLsb']
  have mdt : cidMdt buf = cid.extractLsb' 8 12 := by
    rw [cidMdt, byte (by decide), byte (by decide), extractLsb'_extractLsb' _ _ _ (by decide)]
    exact BitVec.extractLsb'_append_extractLsb'_eq_extractLsb' rfl
  rw [cidDecode, psn, mdt]
  simp [byte, extractLsb'_extractLsb', -BitVec.extractLsb'_toNat]

/-! ### CSD (R380 to R382) -/

section

variable {buf : List Byte}

theorem csdDecode_v1 (h : csdVersion (csdOf buf) = 0) : csdDecode buf = .v1 (csdV1 (csdOf buf)) := by
  simp only [csdDecode, h]

theorem csdDecode_v2 (h : csdVersion (csdOf buf) = 1) : csdDecode buf = .v2 (csdV2 (csdOf buf)) := by
  simp only [csdDecode, h]

theorem csdDecode_other (h : 1 < csdVersion (csdOf buf)) : csdDecode buf = .other (csdVersion (csdOf buf)) := by
  simp only [csdDecode]
  split
  · omega
  · omega
  · rfl

/-! ### Capacity (R383, R384) -/

/-- The V1 formula with its block length in units of 512 bytes: no more than the widths of its fields allow. -/
theorem v1Blocks_le {c m r : Nat} (hc : c < 2 ^ 12) (hm : m < 2 ^ 3) (hr : r < 2 ^ 4) :
    (c + 1) <<< (m + 2) <<< (r - 9) ≤ 2 ^ 27 := by
  have hmult : 2 ^ (m + 2) ≤ 2 ^ 9 := Nat.pow_le_pow_right (by decide) (by omega)
  have hlen : 2 ^ (r - 9) ≤ 2 ^ 6 := Nat.pow_le_pow_right (by decide) (by omega)
  calc (c + 1) <<< (m + 2) <<< (r - 9)
      = (c + 1) * 2 ^ (m + 2) * 2 ^ (r - 9) := by simp only [Nat.shiftLeft_eq]
    _ ≤ 2 ^ 12 * 2 ^ 9 * 2 ^ 6 := Nat.mul_le_mul (Nat.mul_le_mul hc hmult) hlen

/-- The V1 formula in bytes. -/
theorem mul_v1Blocks (c m : Nat) {r : Nat} (hr : 9 ≤ r) :
    512 * ((c + 1) <<< (m + 2) <<< (r - 9)) = (c + 1) * 2 ^ (m + 2) * 2 ^ r := by
  have hpow : 2 ^ (r - 9) * 512 = 2 ^ r := pow_sub_mul_pow 2 hr
  rw [Nat.shiftLeft_eq, Nat.shiftLeft_eq, Nat.mul_comm, Nat.mul_assoc, hpow]

theorem csdCapacity_v1 (hv : csdVersion (csdOf buf) = 0) : csdCapacity buf =
    if csdField (csdOf buf) 83 80 < 9 then none
    else some (BitVec.ofNat 32 ((csdField (csdOf buf) 73 62 + 1) <<< (csdField (csdOf buf) 49 47 + 2) <<<
      (csdField (csdOf buf) 83 80 - 9))) := by
  rw [csdCapacity, csdDecode_v1 hv]
  rfl

theorem csdCapacity_v1_blocks (hv : csdVersion (csdOf buf) = 0) (hr : 9 ≤ csdField (csdOf buf) 83 80) :
    ∃ n, csdCapacity buf = some n ∧
      512 * n.toNat = (csdField (csdOf buf) 73 62 + 1) * 2 ^ (csdField (csdOf buf) 49 47 + 2) *
        2 ^ csdField (csdOf buf) 83 80 ∧ n.toNat ≤ 2 ^ 27 := by
  have hle := v1Blocks_le (csdField_lt (csdOf buf) 73 62) (csdField_lt (csdOf buf) 49 47)
    (csdField_lt (csdOf buf) 83 80)
  refine ⟨_, (csdCapacity_v1 hv).trans (if_neg (Nat.not_lt.2 hr)), ?_⟩
  rw [BitVec.toNat_ofNat, Nat.mod_eq_of_lt (hle.trans_lt (by decide))]
  exact ⟨mul_v1Blocks _ _ hr, hle⟩

theorem csdCapacity_v1_shortBlocks (hv : csdVersion (csdOf buf) = 0) (hr : csdField (csdOf buf) 83 80 < 9) :
    csdCapacity buf = none := (csdCapacity_v1 hv).trans (if_pos hr)

/-- With its 22 bits all set, and only then, C_SIZE gives 2^32 blocks, which the result cannot hold. -/
theorem v2Blocks_overflow_iff (csd : BitVec 128) :
    (csdField csd 69 48 + 1) * 1024 ≥ 2 ^ Config.blockCountBits ↔ csdField csd 69 48 = 0x3FFFFF := by
  have hlt : csdField csd 69 48 < 2 ^ 22 := csdField_lt csd 69 48
  simp only [Config.blockCountBits]
  omega

theorem csdCapacity_v2 (hv : csdVersion (csdOf buf) = 1) : csdCapacity buf =
    if (csdField (csdOf buf) 69 48 + 1) * 1024 ≥ 2 ^ Config.blockCountBits then none
    else some (BitVec.ofNat 32 ((csdField (csdOf buf) 69 48 + 1) * 1024)) := by
  rw [csdCapacity, csdDecode_v2 hv]
  rfl

theorem csdCapacity_v2_blocks (hv : csdVersion (csdOf buf) = 1) (hc : csdField (csdOf buf) 69 48 ≠ 0x3FFFFF) :
    ∃ n, csdCapacity buf = some n ∧ n.toNat = (csdField (csdOf buf) 69 48 + 1) * 1024 := by
  have hfits := (v2Blocks_overflow_iff (csdOf buf)).not.2 hc
  refine ⟨_, (csdCapacity_v2 hv).trans (if_neg hfits), ?_⟩
  rw [BitVec.toNat_ofNat]
  exact Nat.mod_eq_of_lt (Nat.not_le.1 hfits)

theorem csdCapacity_v2_overflow (hv : csdVersion (csdOf buf) = 1) (hc : csdField (csdOf buf) 69 48 = 0x3FFFFF) :
    csdCapacity buf = none := (csdCapacity_v2 hv).trans (if_pos ((v2Blocks_overflow_iff _).2 hc))

theorem csdCapacity_other (hv : 1 < csdVersion (csdOf buf)) : csdCapacity buf = some 0#32 := by
  rw [csdCapacity, csdDecode_other hv]

end

/-- Settles O59: a CID's fields by `cidDecode_eq`, a CSD's by `csdField_csdOf` in the layout of its version, and the
capacity by the lemmas of each version. -/
theorem registerDecoding : Obligations.RegisterDecoding := by
  unfold Obligations.RegisterDecoding
  refine ⟨fun buf hlen => ?cid, fun buf hlen => ?csd, fun buf => ⟨csdCapacity_v1_blocks,
    csdCapacity_v1_shortBlocks, csdCapacity_v2_blocks, csdCapacity_v2_overflow, csdCapacity_other⟩⟩
  case cid =>
    intro F
    have hF (hi lo : Nat) : F hi lo = ((csdOf buf.reverse).extractLsb' lo (hi + 1 - lo)).toNat :=
      (csdField_csdOf (by simpa using hlen) hi lo).symm
    simp only [cidDecode_eq hlen, hF, List.map_cons, List.map_nil, and_self]
  case csd =>
    intro F common
    have hF (hi lo : Nat) : F hi lo = csdField (csdOf buf) hi lo := (csdField_csdOf hlen hi lo).symm
    have hcommon : common = csdCommon (csdOf buf) := by simp only [common, hF, csdCommon]
    simp only [hF, hcommon]
    exact ⟨csdDecode_v1, csdDecode_v2, csdDecode_other⟩

end Sys2Proof.Machine
